-- ==== Sys2Proof/Word.lean ====
section
/-! DEFINITION. The byte of both links (spec/10, R179) and nothing else: every quantity of the part is a whole
number without sign (R179), held as a natural number; only what crosses a link as bits is a bit vector. -/

namespace Sys2Proof

/-- A byte of the office link or of the floor line: 8 bits (R179). -/
abbrev Byte := BitVec 8

end Sys2Proof
end

