-- ==== Sys2Proof/Config.lean ====
section
/-! DEFINITION. What the spec fixes as a number for the whole part, and the one free value it leaves open. -/

namespace Sys2Proof.Config

/-- Capacity of the stock table (R1). -/
def maxSlabs : Nat := 256
/-- Slots of the remnant rack (R12). -/
def rackSlots : Nat := 24
/-- Capacity of the plan table (R19). -/
def maxPlans : Nat := 32
/-- Cut records of the pool (R55). -/
def poolSize : Nat := 16
/-- Entries an uncertain echo list holds (R58). -/
def maxUncertain : Nat := 4
/-- Commands the line command queue holds (R136). -/
def maxCommands : Nat := 16
/-- READER stations the roster holds (R129). -/
def maxReaders : Nat := 4
/-- Consecutive failed transactions that make a station UNREACHABLE (R133, R144). -/
def unreachableAfter : Nat := 3
/-- Entries of the pending alarm table (R169). -/
def maxAlarms : Nat := 48
/-- Reports of the report queue (R176). -/
def maxReports : Nat := 64
/-- Slots of the office port's input buffer (R148). -/
def inputSlots : Nat := 4
/-- Bytes of body a slot can hold (R181). -/
def maxBody : Nat := 4096
/-- Largest value of an accumulator, of the makeup litre count and of the seconds counter: 2^32 - 1 (R75, R111). -/
def max32 : Nat := 4294967295
/-- Largest value of a job's counts: 2^16 - 1 (R75). -/
def max16 : Nat := 65535
/-- First id of the remnant range (R13). -/
def firstRemnantId : Nat := 4000000000

/-- FREE VALUE (log entry 4). A mark the spec leaves open, drawn by the counter `State.freeCount`: the
abort-requested flag of a late CUT report, and the flawed and tolerance marks of its lengths (R68 does not give
them). No body: nothing can be proved of its value. -/
opaque freeMark : Nat → Bool

end Sys2Proof.Config
end

