-- ==== Sys2Proof/Syntax.lean ====
section
/-! DEFINITION. The commands of the Frevaz 2410: one constructor for each row of spec/opcode_table.json (the part's
steps, each whole and indivisible: spec/95). An office item carries the operands of its item header (R182): an
operand that the item may leave out is an `Option`; a named choice is the number on the wire, since a choice with
no name is left to the owner, who refuses it BAD_VALUE (R182). -/

namespace Sys2Proof

/-- A rectangle of a slab as a reader or a record gives it, in mm (R1): `xFrom ≤ x < xTo`, `yFrom ≤ y < yTo`. -/
structure Zone where
  xFrom : Nat
  xTo   : Nat
  yFrom : Nat
  yTo   : Nat
  deriving DecidableEq, Repr

/-- One entry of PLAN LOAD's step list as the item carries it, 11 bytes (R182). -/
structure RawStep where
  kind   : Nat
  job    : Nat
  strip  : Nat
  side   : Nat
  count  : Nat
  length : Nat
  piece  : Nat
  deriving DecidableEq, Repr

/-- An item of a REQUEST as its header gives it (10, "Office frames"): code, presence byte, operand bytes. -/
structure RawItem where
  code     : Byte
  presence : Byte
  operands : List Byte
  deriving DecidableEq, Repr

/-- The commands. -/
inductive Instr where
  -- the whole part and the time base
  | powerOn
  | timeBaseSecond
  | cutTimeout (cutId : Nat)
  | channelEntersStale (number : Nat)
  | scanPassDue
  | readerPollDue (address : Nat)
  -- the office link
  | officeFrameBegin
  | officeHeaderArrived (header : List Byte)
  | officeFrameArrived (rest : List Byte)
  | officeLinkSilence
  | frameSent
  -- the request handler
  | takeFrame
  | badItem
  -- context items
  | useJob (job : Option Nat)
  | useCutter (number : Option Nat)
  | useSlab (slab : Option Nat)
  | contextClear
  -- STOCK
  | price (slab : Option Nat) (basis : Nat) (lot : Option Nat)
  | reserve (slab job : Option Nat)
  | release (slab : Option Nat)
  | discard (slab : Option Nat)
  | findRemnant (length width : Nat) (lot : Option Nat)
  | remnantLimits (width length : Nat)
  -- PLAN
  | planLoad (slab : Option Nat) (kerf : Nat) (steps : List RawStep)
  | planClear (slab : Option Nat)
  | skip (slab : Option Nat) (number : Nat)
  | verdict (slab : Option Nat) (number ruling : Nat)
  | tolerance (mm : Nat)
  -- WORK
  | load (slab number job : Option Nat)
  | unload (number : Option Nat)
  | toolChange (number : Option Nat)
  | clearFault (number : Option Nat)
  | cut (number : Nat) (slab onCutter job : Option Nat)
  | abort (number : Option Nat)
  -- WATER
  | scanList (numbers : List Nat)
  | scanStart (mode : Nat) (number : Option Nat)
  | scanStop
  | channelLimits (number : Nat) (low high : Option Nat)
  | waterRoles (level turbidity returnFlow makeup : Option Nat)
  | waterMarks (low critical resume turbLimit turbCritical : Nat)
  | lineHold
  | lineRelease
  -- JOB
  | jobOpen (job quote : Option Nat)
  | jobQuote (job quote : Option Nat)
  | jobClose (job : Option Nat)
  | shopRates (loop fresh : Nat)
  -- TABLE
  | station (address kind : Nat)
  | stationRemove (address : Nat)
  | lineSettings (window retries readerInterval staleness passInterval : Nat)
  | floorRestart
  | cutter (number address kind kerf overcut feed draw overhead limit machineRate toolRate newLife : Nat)
  | cutterRemove (number : Nat)
  | channel (number address index kind : Nat) (low high : Option Nat)
  | channelRemove (number : Nat)
  | alarmAction (kind priority action : Nat)
  | origin (number cls areas : Nat)
  | originRemove (number : Nat)
  | openLevel (level : Nat)
  -- READ and ALARM
  | readSlab (slab : Option Nat)
  | readPlan (slab : Option Nat)
  | readCutter (number : Option Nat)
  | readChannel (number : Nat)
  | readJob (job : Option Nat)
  | readRoster
  | readWater
  | readAlarms
  | takeAlarm
  -- the floor line
  | floorFrameBegin
  | floorFrameSent
  | responseWindowExpired
  | floorLineSilence
  | badFloorFrame
  | floorAck (address : Nat)
  | floorNak (address : Nat)
  | noneAnswer (address : Nat)
  | completionAnswer (address cutId slab number ending pieces travel elapsed litres : Nat) (lengths : List Nat)
  | scanAnswer (address tag lot length width thickness : Nat) (zones : List Zone)
  | valueAnswer (address index : Nat) (valid : Bool) (value : Nat)
  -- the line port's reports to the cutter controller
  | startFailure (onCutter cutId : Nat)
  | abortFailure (onCutter : Nat)
  | cutterUnreachable (onCutter : Nat)
  deriving DecidableEq, Repr

end Sys2Proof
end

