-- ==== Sys2Proof/Decode.lean ====
section
/-! DEFINITION. The bytes of both links (spec/10): numbers (R179), the check sequence (R180), the items of a REQUEST
(R182), a whole REQUEST (R149, R181), and the frames of floor stations (R183), each decoder total. The opcode table
gives no row any bits, so `decodeTableWord` spells no command. -/

namespace Sys2Proof

/-! ### Numbers, most significant byte first (R179) -/

/-- A number of 1 byte. -/
def be1 (n : Nat) : List Byte := [BitVec.ofNat 8 n]
/-- A number of 2 bytes. -/
def be2 (n : Nat) : List Byte := [BitVec.ofNat 8 (n / 256), BitVec.ofNat 8 n]
/-- A number of 4 bytes. -/
def be4 (n : Nat) : List Byte :=
  [BitVec.ofNat 8 (n / 16777216), BitVec.ofNat 8 (n / 65536), BitVec.ofNat 8 (n / 256), BitVec.ofNat 8 n]

/-- Reads a number of 1 byte and gives the bytes behind it. -/
def rd1 : List Byte → Option (Nat × List Byte)
  | b :: r => some (b.toNat, r)
  | [] => none
/-- Reads a number of 2 bytes. -/
def rd2 : List Byte → Option (Nat × List Byte)
  | a :: b :: r => some (a.toNat * 256 + b.toNat, r)
  | _ => none
/-- Reads a number of 4 bytes. -/
def rd4 : List Byte → Option (Nat × List Byte)
  | a :: b :: c :: d :: r => some (((a.toNat * 256 + b.toNat) * 256 + c.toNat) * 256 + d.toNat, r)
  | _ => none
/-- Reads an operand whose presence bit is `present`; an operand whose bit is clear occupies no byte (R182). -/
def rdOpt (present : Bool) (rd : List Byte → Option (Nat × List Byte)) (l : List Byte) :
    Option (Option Nat × List Byte) :=
  if present then (rd l).map fun (v, r) => (some v, r) else some (none, l)
/-- Reads `n` entries of one form. -/
def rdMany {α : Type} (rd : List Byte → Option (α × List Byte)) : Nat → List Byte → Option (List α × List Byte)
  | 0, l => some ([], l)
  | n + 1, l => do
    let (a, l) ← rd l
    let (as, l) ← rdMany rd n l
    return (a :: as, l)
/-- Reads a list preceded by its count byte (R179, R182). -/
def rdCounted {α : Type} (rd : List Byte → Option (α × List Byte)) (l : List Byte) : Option (List α × List Byte) := do
  let (n, l) ← rd1 l
  rdMany rd n l
/-- Accepts `a` when no byte is left. -/
def rdDone {α : Type} (a : α) : List Byte → Option α
  | [] => some a
  | _ => none

/-! ### The check sequence (R180) -/

/-- One bit of a byte enters the CRC register, most significant first; generator 4,129. -/
def crcBit (reg : BitVec 16) (bit : Bool) : BitVec 16 :=
  if reg.getLsbD 15 != bit then (reg <<< 1) ^^^ 4129#16 else reg <<< 1
/-- One byte enters the CRC register. -/
def crcByte (reg : BitVec 16) (b : Byte) : BitVec 16 :=
  [7, 6, 5, 4, 3, 2, 1, 0].foldl (fun reg i => crcBit reg (b.getLsbD i)) reg
/-- The CRC-16 of the bytes of a frame after its start byte and before the check (R180). -/
def crc16 (bytes : List Byte) : Nat := (bytes.foldl crcByte 65535#16).toNat
/-- Whether the last two bytes are the check over the bytes before them. -/
def checkGood (covered : List Byte) (check : List Byte) : Bool := check == be2 (crc16 covered)

/-! ### Items (R182) -/

/-- The bytes of one step entry of PLAN LOAD (R182). -/
def rdStep (l : List Byte) : Option (RawStep × List Byte) := do
  let (kind, l) ← rd1 l
  let (job, l) ← rd1 l
  let (strip, l) ← rd1 l
  let (side, l) ← rd1 l
  let (count, l) ← rd1 l
  let (length, l) ← rd2 l
  let (piece, l) ← rd4 l
  return (⟨kind, job, strip, side, count, length, piece⟩, l)

/-- The items whose only operand is one context or optional operand. -/
def decodeOne (p : Nat) (rd : List Byte → Option (Nat × List Byte)) (mk : Option Nat → Instr) (l : List Byte) :
    Option Instr :=
  if p < 2 then do
    let (a, l) ← rdOpt (p.testBit 0) rd l
    rdDone (mk a) l
  else none

/-- The items with two context or optional operands and nothing else. -/
def decodeTwo (p : Nat) (rdA rdB : List Byte → Option (Nat × List Byte)) (mk : Option Nat → Option Nat → Instr)
    (l : List Byte) : Option Instr :=
  if p < 4 then do
    let (a, l) ← rdOpt (p.testBit 0) rdA l
    let (b, l) ← rdOpt (p.testBit 1) rdB l
    rdDone (mk a b) l
  else none

/-- The items with no operand. -/
def decodeNone (p : Nat) (i : Instr) (l : List Byte) : Option Instr := if p = 0 then rdDone i l else none

/-- CUTTER (R48, R182): number, station address, kind and the settings in the order of R43; or its remove form. -/
def decodeCutter (p : Nat) (l : List Byte) : Option Instr :=
  if p = 0 then do
    let (number, l) ← rd1 l
    let (address, l) ← rd1 l
    let (kind, l) ← rd1 l
    let (kerf, l) ← rd1 l
    let (overcut, l) ← rd1 l
    let (feed, l) ← rd2 l
    let (draw, l) ← rd2 l
    let (overhead, l) ← rd2 l
    let (limit, l) ← rd2 l
    let (machineRate, l) ← rd4 l
    let (toolRate, l) ← rd4 l
    let (newLife, l) ← rd4 l
    rdDone (.cutter number address kind kerf overcut feed draw overhead limit machineRate toolRate newLife) l
  else if p = 128 then do
    let (number, l) ← rd1 l
    rdDone (.cutterRemove number) l
  else none

/-- CHANNEL (R96, R97, R182) and its remove form. -/
def decodeChannel (p : Nat) (l : List Byte) : Option Instr :=
  if p < 4 then do
    let (number, l) ← rd1 l
    let (address, l) ← rd1 l
    let (index, l) ← rd1 l
    let (kind, l) ← rd1 l
    let (low, l) ← rdOpt (p.testBit 0) rd2 l
    let (high, l) ← rdOpt (p.testBit 1) rd2 l
    rdDone (.channel number address index kind low high) l
  else if p = 128 then do
    let (number, l) ← rd1 l
    rdDone (.channelRemove number) l
  else none

/-- The items of the areas STOCK and PLAN, by their place in the area. -/
def decodeStockPlan (area place p : Nat) (l : List Byte) : Option Instr :=
  match area, place with
  | 1, 1 => if p < 4 then do
      let (slab, l) ← rdOpt (p.testBit 0) rd4 l
      let (basis, l) ← rd4 l
      let (lot, l) ← rdOpt (p.testBit 1) rd1 l
      rdDone (.price slab basis lot) l
    else none
  | 1, 2 => decodeTwo p rd4 rd1 .reserve l
  | 1, 3 => decodeOne p rd4 .release l
  | 1, 4 => decodeOne p rd4 .discard l
  | 1, 5 => if p < 2 then do
      let (length, l) ← rd2 l
      let (width, l) ← rd2 l
      let (lot, l) ← rdOpt (p.testBit 0) rd1 l
      rdDone (.findRemnant length width lot) l
    else none
  | 1, 6 => if p = 0 then do
      let (width, l) ← rd2 l
      let (length, l) ← rd2 l
      rdDone (.remnantLimits width length) l
    else none
  | 2, 1 => if p < 2 then do
      let (slab, l) ← rdOpt (p.testBit 0) rd4 l
      let (kerf, l) ← rd1 l
      let (steps, l) ← rdCounted rdStep l
      rdDone (.planLoad slab kerf steps) l
    else none
  | 2, 2 => decodeOne p rd4 .planClear l
  | 2, 3 => if p < 2 then do
      let (slab, l) ← rdOpt (p.testBit 0) rd4 l
      let (number, l) ← rd1 l
      rdDone (.skip slab number) l
    else none
  | 2, 4 => if p < 2 then do
      let (slab, l) ← rdOpt (p.testBit 0) rd4 l
      let (number, l) ← rd1 l
      let (ruling, l) ← rd1 l
      rdDone (.verdict slab number ruling) l
    else none
  | 2, 5 => if p = 0 then do
      let (mm, l) ← rd1 l
      rdDone (.tolerance mm) l
    else none
  | _, _ => none

/-- The items of the area WORK. -/
def decodeWork (place p : Nat) (l : List Byte) : Option Instr :=
  match place with
  | 1 => if p < 8 then do
      let (slab, l) ← rdOpt (p.testBit 0) rd4 l
      let (number, l) ← rdOpt (p.testBit 1) rd1 l
      let (job, l) ← rdOpt (p.testBit 2) rd1 l
      rdDone (.load slab number job) l
    else none
  | 2 => if p < 8 then do
      let (number, l) ← rd1 l
      let (slab, l) ← rdOpt (p.testBit 0) rd4 l
      let (onCutter, l) ← rdOpt (p.testBit 1) rd1 l
      let (job, l) ← rdOpt (p.testBit 2) rd1 l
      rdDone (.cut number slab onCutter job) l
    else none
  | 3 => decodeOne p rd1 .abort l
  | 4 => decodeOne p rd1 .unload l
  | 5 => decodeOne p rd1 .toolChange l
  | 6 => decodeOne p rd1 .clearFault l
  | _ => none

/-- The items of the area WATER. -/
def decodeWater (place p : Nat) (l : List Byte) : Option Instr :=
  match place with
  | 1 => if p = 0 then do
      let (numbers, l) ← rdCounted rd1 l
      rdDone (.scanList numbers) l
    else none
  | 2 => if p < 2 then do
      let (mode, l) ← rd1 l
      let (number, l) ← rdOpt (p.testBit 0) rd1 l
      rdDone (.scanStart mode number) l
    else none
  | 3 => decodeNone p .scanStop l
  | 4 => if p < 4 then do
      let (number, l) ← rd1 l
      let (low, l) ← rdOpt (p.testBit 0) rd2 l
      let (high, l) ← rdOpt (p.testBit 1) rd2 l
      rdDone (.channelLimits number low high) l
    else none
  | 5 => if p < 16 then do
      let (level, l) ← rdOpt (p.testBit 0) rd1 l
      let (turbidity, l) ← rdOpt (p.testBit 1) rd1 l
      let (returnFlow, l) ← rdOpt (p.testBit 2) rd1 l
      let (makeup, l) ← rdOpt (p.testBit 3) rd1 l
      rdDone (.waterRoles level turbidity returnFlow makeup) l
    else none
  | 6 => if p = 0 then do
      let (low, l) ← rd2 l
      let (critical, l) ← rd2 l
      let (resume, l) ← rd2 l
      let (turbLimit, l) ← rd2 l
      let (turbCritical, l) ← rd2 l
      rdDone (.waterMarks low critical resume turbLimit turbCritical) l
    else none
  | 7 => decodeNone p .lineHold l
  | 8 => decodeNone p .lineRelease l
  | _ => none

/-- The items of the area TABLE (log entries 10, 11). -/
def decodeTable (place p : Nat) (l : List Byte) : Option Instr :=
  match place with
  | 1 => if p = 0 then do
      let (address, l) ← rd1 l
      let (kind, l) ← rd1 l
      rdDone (.station address kind) l
    else if p = 128 then do
      let (address, l) ← rd1 l
      rdDone (.stationRemove address) l
    else none
  | 2 => if p = 0 then do
      let (window, l) ← rd2 l
      let (retries, l) ← rd1 l
      let (readerInterval, l) ← rd2 l
      let (staleness, l) ← rd2 l
      let (passInterval, l) ← rd2 l
      rdDone (.lineSettings window retries readerInterval staleness passInterval) l
    else none
  | 3 => decodeNone p .floorRestart l
  | 4 => decodeCutter p l
  | 5 => decodeChannel p l
  | 6 => if p = 0 then do
      let (kind, l) ← rd1 l
      let (priority, l) ← rd1 l
      let (action, l) ← rd1 l
      rdDone (.alarmAction kind priority action) l
    else none
  | 7 => if p = 0 then do
      let (number, l) ← rd1 l
      let (cls, l) ← rd1 l
      let (areas, l) ← rd1 l
      rdDone (.origin number cls areas) l
    else if p = 128 then do
      let (number, l) ← rd1 l
      rdDone (.originRemove number) l
    else none
  | 8 => if p = 0 then do
      let (level, l) ← rd1 l
      rdDone (.openLevel level) l
    else none
  | _ => none

/-- The item a raw item spells (R182), or none where R151 refuses it BAD_ITEM: its code names no item, a presence bit
is set beyond its context and optional operands, its remove mark is set without a remove form, or its operand length
is not the length it requires. -/
def decodeItem (r : RawItem) : Option Instr :=
  let area := r.code.toNat / 16
  let place := r.code.toNat % 16
  let p := r.presence.toNat
  let l := r.operands
  match area with
  | 0 => match place with
    | 1 => decodeOne p rd1 .useJob l
    | 2 => decodeOne p rd1 .useCutter l
    | 3 => decodeOne p rd4 .useSlab l
    | 4 => decodeNone p .contextClear l
    | _ => none
  | 1 => decodeStockPlan 1 place p l
  | 2 => decodeStockPlan 2 place p l
  | 3 => decodeWork place p l
  | 4 => decodeWater place p l
  | 5 => match place with
    | 1 => decodeTwo p rd1 rd4 .jobOpen l
    | 2 => decodeTwo p rd1 rd4 .jobQuote l
    | 3 => decodeOne p rd1 .jobClose l
    | 4 => if p = 0 then do
        let (loop, l) ← rd4 l
        let (fresh, l) ← rd4 l
        rdDone (.shopRates loop fresh) l
      else none
    | _ => none
  | 6 => decodeTable place p l
  | 7 => match place with
    | 1 => decodeOne p rd4 .readSlab l
    | 2 => decodeOne p rd4 .readPlan l
    | 3 => decodeOne p rd1 .readCutter l
    | 4 => if p = 0 then do
        let (number, l) ← rd1 l
        rdDone (.readChannel number) l
      else none
    | 5 => decodeOne p rd1 .readJob l
    | 6 => decodeNone p .readRoster l
    | 7 => decodeNone p .readWater l
    | 8 => decodeNone p .readAlarms l
    | _ => none
  | 8 => match place with
    | 1 => decodeNone p .takeAlarm l
    | _ => none
  | _ => none

/-! ### A whole REQUEST (R149, R181) -/

/-- Reads one item by its item header (10): code, presence byte, operand length, operands. -/
def rdItem (l : List Byte) : Option (RawItem × List Byte) :=
  match l with
  | code :: presence :: m1 :: m0 :: rest =>
    let m := m1.toNat * 256 + m0.toNat
    if m ≤ rest.length then some (⟨code, presence, rest.take m⟩, rest.drop m) else none
  | _ => none

/-- The items of a REQUEST's body, when `count` items fill it exactly (R149, R181). -/
def decodeItems (count : Nat) (body : List Byte) : Option (List RawItem) := do
  let (items, rest) ← rdMany rdItem count body
  rdDone items rest

/-- The body length an office header gives: the last two of its 7 bytes after the start byte (10). -/
def headerLength (header : List Byte) : Nat :=
  match header.drop 5 with
  | [n1, n0] => n1.toNat * 256 + n0.toNat
  | _ => 0

/-- A frame that has arrived in full, by its 7 header bytes and the bytes behind them, checked as R149 lists: CRC,
kind REQUEST, 1 to 16 items, item lengths that add up. Answers its origin, tag and items. -/
def decodeRequest (header rest : List Byte) : Option (Nat × Nat × List RawItem) :=
  let body := rest.take (headerLength header)
  if checkGood (header ++ body) (rest.drop (headerLength header)) then
    match header with
    | kind :: origin :: t1 :: t0 :: count :: _ =>
      if kind = 1#8 ∧ 1 ≤ count.toNat ∧ count.toNat ≤ 16 then
        (decodeItems count.toNat body).map fun items => (origin.toNat, t1.toNat * 256 + t0.toNat, items)
      else none
    | _ => none
  else none

/-! ### Frames of floor stations (R183) -/

/-- Reads one flaw zone of a SCAN body. -/
def rdZone (l : List Byte) : Option (Zone × List Byte) := do
  let (xFrom, l) ← rd2 l
  let (xTo, l) ← rd2 l
  let (yFrom, l) ← rd2 l
  let (yTo, l) ← rd2 l
  return (⟨xFrom, xTo, yFrom, yTo⟩, l)

/-- A COMPLETION body from a station (10): its end is one of three and its count of lengths at most 8 (R183). -/
def decodeCompletion (address : Nat) (l : List Byte) : Option Instr := do
  let (cutId, l) ← rd1 l
  let (slab, l) ← rd4 l
  let (number, l) ← rd1 l
  let (ending, l) ← rd1 l
  let (pieces, l) ← rd1 l
  let (travel, l) ← rd2 l
  let (elapsed, l) ← rd2 l
  let (litres, l) ← rd2 l
  let (c, l) ← rd1 l
  let (lengths, l) ← rdMany rd2 c l
  if 1 ≤ ending ∧ ending ≤ 3 ∧ c ≤ 8 then
    rdDone (.completionAnswer address cutId slab number ending pieces travel elapsed litres lengths) l
  else none

/-- A SCAN body from a station. -/
def decodeScan (address : Nat) (l : List Byte) : Option Instr := do
  let (tag, l) ← rd4 l
  let (lot, l) ← rd1 l
  let (length, l) ← rd2 l
  let (width, l) ← rd2 l
  let (thickness, l) ← rd1 l
  let (zones, l) ← rdCounted rdZone l
  rdDone (.scanAnswer address tag lot length width thickness zones) l

/-- A VALUE body from a station: its valid flag is 0 or 1 (R183). -/
def decodeValue (address : Nat) (l : List Byte) : Option Instr := do
  let (index, l) ← rd1 l
  let (valid, l) ← rd1 l
  let (value, l) ← rd2 l
  if valid ≤ 1 then rdDone (.valueAnswer address index (valid == 1) value) l else none

/-- The payload of a station's frame by its frame kind (R183); none is bad framing. -/
def decodeFloorPayload (address kind : Nat) (payload : List Byte) : Option Instr :=
  match kind with
  | 3 => rdDone (.floorAck address) payload
  | 4 => rdDone (.floorNak address) payload
  | 5 => match payload with
    | [] => none
    | k :: body => match k.toNat with
      | 0 => rdDone (.noneAnswer address) body
      | 1 => decodeCompletion address body
      | 2 => decodeScan address body
      | 3 => decodeValue address body
      | _ => none
  | _ => none

/-- The command that a whole frame from a station spells, by the bytes after its start byte up to its check (R183):
the event of a good frame, or BAD_FLOOR_FRAME where its framing or its check is bad (log entry 21). -/
def decodeFloorFrame (bytes : List Byte) : Instr :=
  match bytes with
  | address :: kind :: p :: rest =>
    let payload := rest.take p.toNat
    match decodeFloorPayload address.toNat kind.toNat payload with
    | some i =>
      if checkGood (address :: kind :: p :: payload) (rest.drop p.toNat) then i else .badFloorFrame
    | none => .badFloorFrame
  | _ => .badFloorFrame

/-! ### The opcode table -/

/-- The command a word spells by the table's bits: the table gives no row any bits, so none. -/
def decodeTableWord (_nbits _w : Nat) : Option Instr := none

/-! ### The encoder of items, from the same layouts (R182) -/

/-- The bytes of an operand that may be absent. -/
def beOpt (be : Nat → List Byte) : Option Nat → List Byte
  | some v => be v
  | none => []

/-- The presence byte of operands in the order they stand in the item (R182). -/
def presence : List (Option Nat) → Nat
  | [] => 0
  | o :: os => (if o.isSome then 1 else 0) + 2 * presence os

/-- The bytes of one step entry of PLAN LOAD. -/
def beStep (r : RawStep) : List Byte :=
  be1 r.kind ++ be1 r.job ++ be1 r.strip ++ be1 r.side ++ be1 r.count ++ be2 r.length ++ be4 r.piece

/-- A raw item by its code, presence byte and operands. -/
def rawItem (code pres : Nat) (operands : List Byte) : RawItem :=
  ⟨BitVec.ofNat 8 code, BitVec.ofNat 8 pres, operands⟩

/-- The raw item of a command that is an office item, none for an event. -/
def encodeItem : Instr → Option RawItem
  | .useJob j => some (rawItem 1 (presence [j]) (beOpt be1 j))
  | .useCutter c => some (rawItem 2 (presence [c]) (beOpt be1 c))
  | .useSlab s => some (rawItem 3 (presence [s]) (beOpt be4 s))
  | .contextClear => some (rawItem 4 0 [])
  | .price s b lot => some (rawItem 17 (presence [s, lot]) (beOpt be4 s ++ be4 b ++ beOpt be1 lot))
  | .reserve s j => some (rawItem 18 (presence [s, j]) (beOpt be4 s ++ beOpt be1 j))
  | .release s => some (rawItem 19 (presence [s]) (beOpt be4 s))
  | .discard s => some (rawItem 20 (presence [s]) (beOpt be4 s))
  | .findRemnant l w lot => some (rawItem 21 (presence [lot]) (be2 l ++ be2 w ++ beOpt be1 lot))
  | .remnantLimits w l => some (rawItem 22 0 (be2 w ++ be2 l))
  | .planLoad s k steps =>
    some (rawItem 33 (presence [s]) (beOpt be4 s ++ be1 k ++ be1 steps.length ++ steps.flatMap beStep))
  | .planClear s => some (rawItem 34 (presence [s]) (beOpt be4 s))
  | .skip s n => some (rawItem 35 (presence [s]) (beOpt be4 s ++ be1 n))
  | .verdict s n v => some (rawItem 36 (presence [s]) (beOpt be4 s ++ be1 n ++ be1 v))
  | .tolerance t => some (rawItem 37 0 (be1 t))
  | .load s c j => some (rawItem 49 (presence [s, c, j]) (beOpt be4 s ++ beOpt be1 c ++ beOpt be1 j))
  | .cut n s c j => some (rawItem 50 (presence [s, c, j]) (be1 n ++ beOpt be4 s ++ beOpt be1 c ++ beOpt be1 j))
  | .abort c => some (rawItem 51 (presence [c]) (beOpt be1 c))
  | .unload c => some (rawItem 52 (presence [c]) (beOpt be1 c))
  | .toolChange c => some (rawItem 53 (presence [c]) (beOpt be1 c))
  | .clearFault c => some (rawItem 54 (presence [c]) (beOpt be1 c))
  | .scanList ns => some (rawItem 65 0 (be1 ns.length ++ ns.flatMap be1))
  | .scanStart m n => some (rawItem 66 (presence [n]) (be1 m ++ beOpt be1 n))
  | .scanStop => some (rawItem 67 0 [])
  | .channelLimits n lo hi => some (rawItem 68 (presence [lo, hi]) (be1 n ++ beOpt be2 lo ++ beOpt be2 hi))
  | .waterRoles a b c d =>
    some (rawItem 69 (presence [a, b, c, d]) (beOpt be1 a ++ beOpt be1 b ++ beOpt be1 c ++ beOpt be1 d))
  | .waterMarks a b c d e => some (rawItem 70 0 (be2 a ++ be2 b ++ be2 c ++ be2 d ++ be2 e))
  | .lineHold => some (rawItem 71 0 [])
  | .lineRelease => some (rawItem 72 0 [])
  | .jobOpen j q => some (rawItem 81 (presence [j, q]) (beOpt be1 j ++ beOpt be4 q))
  | .jobQuote j q => some (rawItem 82 (presence [j, q]) (beOpt be1 j ++ beOpt be4 q))
  | .jobClose j => some (rawItem 83 (presence [j]) (beOpt be1 j))
  | .shopRates a b => some (rawItem 84 0 (be4 a ++ be4 b))
  | .station a k => some (rawItem 97 0 (be1 a ++ be1 k))
  | .stationRemove a => some (rawItem 97 128 (be1 a))
  | .lineSettings w r i st p => some (rawItem 98 0 (be2 w ++ be1 r ++ be2 i ++ be2 st ++ be2 p))
  | .floorRestart => some (rawItem 99 0 [])
  | .cutter n a k ke ov f d oh lim mr tr nl =>
    some (rawItem 100 0 (be1 n ++ be1 a ++ be1 k ++ be1 ke ++ be1 ov ++ be2 f ++ be2 d ++ be2 oh ++ be2 lim ++
      be4 mr ++ be4 tr ++ be4 nl))
  | .cutterRemove n => some (rawItem 100 128 (be1 n))
  | .channel n a i k lo hi =>
    some (rawItem 101 (presence [lo, hi]) (be1 n ++ be1 a ++ be1 i ++ be1 k ++ beOpt be2 lo ++ beOpt be2 hi))
  | .channelRemove n => some (rawItem 101 128 (be1 n))
  | .alarmAction k p a => some (rawItem 102 0 (be1 k ++ be1 p ++ be1 a))
  | .origin n c a => some (rawItem 103 0 (be1 n ++ be1 c ++ be1 a))
  | .originRemove n => some (rawItem 103 128 (be1 n))
  | .openLevel l => some (rawItem 104 0 (be1 l))
  | .readSlab s => some (rawItem 113 (presence [s]) (beOpt be4 s))
  | .readPlan s => some (rawItem 114 (presence [s]) (beOpt be4 s))
  | .readCutter c => some (rawItem 115 (presence [c]) (beOpt be1 c))
  | .readChannel n => some (rawItem 116 0 (be1 n))
  | .readJob j => some (rawItem 117 (presence [j]) (beOpt be1 j))
  | .readRoster => some (rawItem 118 0 [])
  | .readWater => some (rawItem 119 0 [])
  | .readAlarms => some (rawItem 120 0 [])
  | .takeAlarm => some (rawItem 129 0 [])
  | .powerOn | .timeBaseSecond | .cutTimeout _ | .channelEntersStale _ | .scanPassDue | .readerPollDue _
  | .officeFrameBegin | .officeHeaderArrived _ | .officeFrameArrived _ | .officeLinkSilence | .frameSent
  | .takeFrame | .badItem | .floorFrameBegin | .floorFrameSent | .responseWindowExpired | .floorLineSilence
  | .badFloorFrame | .floorAck _ | .floorNak _ | .noneAnswer _
  | .completionAnswer _ _ _ _ _ _ _ _ _ _ | .scanAnswer _ _ _ _ _ _ _ | .valueAnswer _ _ _ _
  | .startFailure _ _ | .abortFailure _ | .cutterUnreachable _ => none

end Sys2Proof
end

