-- ==== Sys2Proof/Machine/State.lean ====
section
/-! DEFINITION. The state of the Frevaz 2410 as plain data: every table, record, queue, mark and latch the spec gives
the part (spec/00 Block overview and the record tables of each chapter), block by block, and its power-on value. A
field "that a value may lack" (00) is an `Option`; a state whose fields depend on it is a constructor's argument; a
quantity that the spec computes from others (a tool state, the occupied rack slots, the ready line) is computed
(Flags.lean), not stored twice. -/

namespace Sys2Proof.Machine

/-! ### Stock table and geometry (01, 02 R22) -/

/-- A rectangle in slab coordinates, in mm, closed at its start and open at its end (R25). -/
structure Rect where
  x0 : Nat
  x1 : Nat
  y0 : Nat
  y1 : Nat
  deriving DecidableEq, Repr

/-- A strip of a slab (R22). -/
structure Strip where
  number : Nat
  yFrom  : Nat
  width  : Nat
  near   : Nat
  far    : Nat
  deriving DecidableEq, Repr

/-- The geometry of a slab record (R22): the rip front's position and remaining width, and the strip list in the
order of creation. -/
structure Geometry where
  y0     : Nat
  wr     : Nat
  strips : List Strip
  deriving DecidableEq, Repr

/-- The state of a slab record with the fields that go with it (R1, R2). -/
inductive SlabState where
  | stocked
  | reserved (job : Nat)
  | onBed (job onCutter : Nat)
  deriving DecidableEq, Repr

/-- What a record carries when its remnant flag is set (R1): the parent's id and the rack slot 1 to 24. -/
structure RemnantTag where
  parent : Nat
  slot   : Nat
  deriving DecidableEq, Repr

/-- A slab record (R1). The remnant flag is set exactly when `remnant` is present. -/
structure Slab where
  id        : Nat
  lot       : Nat
  length    : Nat
  width     : Nat
  thickness : Nat
  basis     : Option Nat
  state     : SlabState
  remnant   : Option RemnantTag
  zones     : List Zone
  geom      : Geometry
  deriving DecidableEq, Repr

/-- The stock table, the recency order of the remnant rack, the next-id value and the remnant minimums. -/
structure Stock where
  slabs     : List Slab
  recency   : List Nat
  nextId    : Nat
  minWidth  : Nat
  minLength : Nat
  deriving DecidableEq, Repr

/-! ### Plan table (02) -/

/-- The end of a strip a CROSS or SERIES is cut from (R20). -/
inductive Side where
  | near
  | far
  deriving DecidableEq, Repr

/-- The kind of a step. -/
inductive StepKind where
  | rip
  | cross
  | series
  deriving DecidableEq, Repr

/-- The fields of a step's kind (R20). -/
inductive StepCut where
  | rip (width : Nat)
  | cross (side : Side) (length piece : Nat)
  | series (side : Side) (length count first : Nat)
  deriving DecidableEq, Repr

/-- The eight step states (R21), in the order R179 numbers them. `partly` is PARTIAL. -/
inductive StepState where
  | pending
  | flagged
  | blocked
  | partly
  | issued
  | unresolved
  | done
  | skipped
  deriving DecidableEq, Repr

/-- One stored length of a step with its flawed mark and tolerance mark (R20). -/
structure StoredLength where
  length    : Nat
  flawed    : Bool
  tolerance : Bool
  deriving DecidableEq, Repr

/-- A step record (R20). -/
structure Step where
  number   : Nat
  job      : Nat
  strip    : Nat
  cut      : StepCut
  state    : StepState
  accepted : Bool
  done     : Nat
  stored   : List StoredLength
  planned  : Option (List Rect)
  deriving DecidableEq, Repr

/-- A plan (R19). -/
structure Plan where
  slab     : Nat
  loadKerf : Nat
  steps    : List Step
  deriving DecidableEq, Repr

/-- The plan table and the length tolerance (R41). -/
structure PlanTable where
  plans     : List Plan
  tolerance : Nat
  deriving DecidableEq, Repr

/-! ### Cutter controller (03) -/

inductive CutterKind where
  | blade
  | jet
  deriving DecidableEq, Repr

inductive ToolState where
  | good
  | low
  | worn
  deriving DecidableEq, Repr

inductive CutterState where
  | idle
  | loaded
  | working
  | faulted
  deriving DecidableEq, Repr

/-- The echo of a record: its cut id, slab id and step number (R55). -/
structure Echo where
  cutId  : Nat
  slab   : Nat
  number : Nat
  deriving DecidableEq, Repr

/-- The reason of a FAILED end, in the order R179 numbers them. -/
inductive FailReason where
  | cutterFault
  | aborted
  | toolWorn
  | unreachable
  | echoMismatch
  | restart
  deriving DecidableEq, Repr

/-- The end of a cut record (R56). -/
inductive Ending where
  | done
  | stopped
  | timedOut
  | failed (reason : FailReason)
  deriving DecidableEq, Repr

/-- An entry of an uncertain echo list (R43, R58). -/
structure Uncertain where
  echo   : Echo
  job    : Nat
  ending : Ending
  deriving DecidableEq, Repr

/-- The settings of a cutter, the fields of R43 from kerf to new tool life. -/
structure CutterSettings where
  kerf        : Nat
  overcut     : Nat
  feed        : Nat
  draw        : Nat
  overhead    : Nat
  limit       : Nat
  machineRate : Nat
  toolRate    : Nat
  newLife     : Nat
  deriving DecidableEq, Repr

/-- A cutter record (R43). The tool state is computed from the two tool lives (R46, `Cutter.toolState`). -/
structure Cutter where
  number    : Nat
  address   : Nat
  kind      : CutterKind
  settings  : CutterSettings
  life      : Nat
  state     : CutterState
  slab      : Option Nat
  slots     : List Nat
  holdMark  : Bool
  lastTaken : Option Echo
  uncertain : List Uncertain
  deriving DecidableEq, Repr

inductive RecordState where
  | waiting
  | sent
  | queued
  | executing
  | held
  deriving DecidableEq, Repr

/-- One planned piece of a cut record: its x range (y range for a RIP) and its piece id, 0 for a RIP. -/
structure PlannedPiece where
  lo    : Nat
  hi    : Nat
  piece : Nat
  deriving DecidableEq, Repr

/-- A live cut record (R55). `side` is absent and `strip`, `stripWidth` are 0 for a RIP; `length` is a RIP's width. -/
structure CutRecord where
  id         : Nat
  state      : RecordState
  onCutter   : Nat
  slab       : Nat
  number     : Nat
  job        : Nat
  stepKind   : StepKind
  cutterKind : CutterKind
  strip      : Nat
  side       : Option Side
  length     : Nat
  stripWidth : Nat
  pieces     : List PlannedPiece
  travel     : Nat
  expected   : Nat
  abortFlag  : Bool
  timer      : Nat
  deriving DecidableEq, Repr

/-- The cutter table and the cut record pool (R43, R55). A pool id with no record here is free. -/
structure Cutting where
  cutters : List Cutter
  records : List CutRecord
  lastId  : Nat
  deriving DecidableEq, Repr

/-! ### Cost unit (04) -/

/-- A job's state; OPEN is `opened`. -/
inductive JobState where
  | opened
  | closed
  deriving DecidableEq, Repr

/-- A job record (R75). -/
structure Job where
  number    : Nat
  state     : JobState
  quote     : Option Nat
  material  : Nat
  tool      : Nat
  water     : Nat
  time      : Nat
  total     : Nat
  pieces    : Nat
  flawed    : Nat
  outOfTol  : Nat
  overflow  : Bool
  overQuote : Bool
  deriving DecidableEq, Repr

/-- The job table and the shop rates (R75, R80). -/
structure Cost where
  jobs      : List Job
  loopRate  : Nat
  freshRate : Nat
  deriving DecidableEq, Repr

/-! ### Water monitor (05) -/

inductive ChannelKind where
  | level
  | turbidity
  | flow
  deriving DecidableEq, Repr

/-- The compare state of a channel (R95); NONE is `none`. -/
inductive CompareState where
  | none
  | within
  | below
  | above
  deriving DecidableEq, Repr

/-- A channel's value and its sample time, present together (R95). -/
structure Reading where
  value : Nat
  time  : Nat
  deriving DecidableEq, Repr

/-- A channel record (R95). -/
structure Channel where
  number  : Nat
  address : Nat
  index   : Nat
  kind    : ChannelKind
  low     : Option Nat
  high    : Option Nat
  reading : Option Reading
  compare : CompareState
  stale   : Bool
  fault   : Bool
  deriving DecidableEq, Repr

inductive ScanMode where
  | single
  | sweep
  | continuous
  deriving DecidableEq, Repr

/-- A poll in flight: its channel and run number (R102). -/
structure PollRef where
  number : Nat
  run    : Nat
  deriving DecidableEq, Repr

/-- The scan engine (R102). It is RUNNING exactly when its mode is present. `due`: a due poll waits at the line port
(R105, R106). -/
structure Engine where
  mode        : Option ScanMode
  scanList    : List Nat
  single      : Option Nat
  position    : Option Nat
  run         : Nat
  inFlight    : Option PollRef
  lastPassEnd : Option Nat
  due         : Bool
  deriving DecidableEq, Repr

/-- The channel table and the scan engine. `staleDue` is the model's own (log entry 2): channels that the last second
found past the staleness limit and whose CHANNEL_ENTERS_STALE step is still to come. -/
structure Water where
  channels : List Channel
  engine   : Engine
  staleDue : List Nat
  deriving DecidableEq, Repr

/-! ### Water gate (06) -/

/-- The five water marks (R111, R114). -/
structure Marks where
  low          : Nat
  critical     : Nat
  resume       : Nat
  turbLimit    : Nat
  turbCritical : Nat
  deriving DecidableEq, Repr

/-- The water gate (R111): four roles, the marks, the critical latch, the other two line hold sources, line hold, the
waiting list and the makeup accounting. -/
structure Gate where
  level       : Option Nat
  turbidity   : Option Nat
  returnFlow  : Option Nat
  makeup      : Option Nat
  marks       : Marks
  latch       : Bool
  alarmSource : Bool
  officeHold  : Bool
  lineHold    : Bool
  waiting     : List Nat
  makeupRef   : Option Nat
  makeupRem   : Nat
  makeupCount : Nat
  deriving DecidableEq, Repr

/-! ### Line port (07) -/

inductive StationKind where
  | cutter
  | reader
  | node
  deriving DecidableEq, Repr

inductive Link where
  | unknown
  | up
  | unreachable
  deriving DecidableEq, Repr

/-- A station record (R129). `nextPoll` is a READER's next reader poll. -/
structure Station where
  address  : Nat
  kind     : StationKind
  link     : Link
  failures : Nat
  nextPoll : Option Nat
  deriving DecidableEq, Repr

/-- The kind of a line command: START with its record's cut id, or ABORT (R136). -/
inductive CommandKind where
  | start (cutId : Nat)
  | abort
  deriving DecidableEq, Repr

/-- A command of the line command queue (R136), with what its COMMAND frame carries behind the command byte, as it was
when the command joined: the START body of R61, or the cutter's number of an ABORT (R137; log entry 9). `orphan`: a START
whose record has ended after an attempt was made, so that what comes of it belongs to no record, whoever holds the cut id
by then (R57, R62, R136). -/
structure Command where
  kind     : CommandKind
  onCutter : Nat
  attempts : Nat
  body     : List Byte
  orphan   : Bool
  deriving DecidableEq, Repr

inductive BroadcastKind where
  | hold
  | resume
  deriving DecidableEq, Repr

/-- A cutter with the station address it had when the broadcast fixed its expected cutters (R142). -/
structure SlotRef where
  onCutter : Nat
  address  : Nat
  deriving DecidableEq, Repr

/-- The broadcast in progress (R141 to R143): whether its frame has been handed the line, the slots still to come, the
missed list, the addressed attempts made for the head of the missed list, and the cutters that have been removed or bound to
another address since it began: one defined or bound after the beginning has no slot in it (R142). -/
structure Broadcast where
  kind     : BroadcastKind
  begun    : Bool
  slots    : List SlotRef
  missed   : List SlotRef
  attempts : Nat
  removed  : List Nat
  rebound  : List Nat
  deriving DecidableEq, Repr

/-- What a transaction is for: an attempt of the head command (R137), an addressed retry of the broadcast (R143), a
poll of the scan engine (R105), or a cutter or reader poll of the rotation (R135). -/
inductive TxKind where
  | command
  | retry (slot : SlotRef)
  | scanPoll (number index run : Nat)
  | poll
  deriving DecidableEq, Repr

/-- What came back for a scan poll (R107): a VALUE, or nothing to use. -/
inductive PollOutcome where
  | value (index : Nat) (valid : Bool) (value : Nat)
  | unanswered
  deriving DecidableEq, Repr

/-- Where a transaction stands (R132, R140): its frame going out; its response window (`expired`: the window has run out
while a frame that began inside it is still coming in, R183); or the ACK or NAK that answers an answer going out, with
what came back for a scan poll, which is dealt with when the transaction ends (R107). -/
inductive TxPhase where
  | sending
  | window (expired : Bool)
  | closing (o : PollOutcome)
  deriving DecidableEq, Repr

structure Tx where
  kind    : TxKind
  address : Nat
  phase   : TxPhase
  deriving DecidableEq, Repr

/-- What holds the floor line (R134): nothing, a transaction, the frame of the broadcast in progress, or one of its
slots (R142). -/
inductive LineHolder where
  | free
  | tx (t : Tx)
  | frame
  | slot (r : SlotRef) (expired : Bool)
  deriving DecidableEq, Repr

/-- The three transaction settings (R144). -/
structure TxSettings where
  window         : Nat
  retries        : Nat
  readerInterval : Nat
  deriving DecidableEq, Repr

/-- A report of the line port to the cutter controller that is still to be taken (R133, R138; log entry 3). -/
inductive LineReport where
  | startFailed (onCutter cutId : Nat)
  | abortFailed (onCutter : Nat)
  | unreachable (onCutter : Nat)
  deriving DecidableEq, Repr

/-- The line port. `receiving` is absent while the port hunts for a start byte, else whether the frame coming in began
inside an open response window (R183); `out` is the frame the part is sending. -/
structure LinePort where
  roster           : List Station
  queue            : List Command
  broadcast        : Option Broadcast
  pendingBroadcast : Option BroadcastKind
  active           : TxSettings
  pendingSet       : TxSettings
  staleness        : Nat
  passInterval     : Nat
  rotation         : Nat
  holder           : LineHolder
  receiving        : Option Bool
  out              : Option (List Byte)
  reports          : List LineReport
  deriving DecidableEq, Repr

/-! ### Alarm unit (09) -/

/-- The 16 alarm kinds, in the order of R167's table. -/
inductive AlarmKind where
  | channelLimit
  | waterCritical
  | channelStale
  | stationUnreachable
  | holdUnacked
  | cutTimeout
  | lateCompletion
  | echoMismatch
  | cutterFault
  | toolLow
  | toolWorn
  | jobOverQuote
  | costOverflow
  | stockFull
  | remnantScrapped
  | flawOnIssued
  deriving DecidableEq, Repr

inductive AlarmAction where
  | report
  | cutterStop
  | jobStop
  | lineHold
  deriving DecidableEq, Repr

/-- An entry of the alarm action table (R167). -/
structure ActionEntry where
  kind     : AlarmKind
  priority : Nat
  action   : AlarmAction
  deriving DecidableEq, Repr

/-- An entry of the pending alarm table (R169). -/
structure AlarmEntry where
  kind     : AlarmKind
  subject  : Nat
  priority : Nat
  count    : Nat
  first    : Nat
  last     : Nat
  deriving DecidableEq, Repr

/-- What a CUT report carries (R57, R68, R175). -/
structure CutReport where
  cutId     : Nat
  onCutter  : Nat
  slab      : Nat
  number    : Nat
  job       : Nat
  ending    : Ending
  pieces    : Nat
  stored    : List StoredLength
  abortFlag : Bool
  late      : Bool
  material  : Nat
  tool      : Nat
  water     : Nat
  time      : Nat
  deriving DecidableEq, Repr

/-- What an ALARM report carries (R170, R175). -/
structure AlarmReport where
  kind      : AlarmKind
  subject   : Nat
  priority  : Nat
  count     : Nat
  notKept   : Bool
  displaced : Option (AlarmKind × Nat)
  deriving DecidableEq, Repr

/-- The events of a STOCK report, in the order R179 numbers them. -/
inductive StockEvent where
  | created
  | updated
  | removed
  | remnantCreated
  | remnantScrapped
  deriving DecidableEq, Repr

/-- What a WATER report carries (R175): line hold on or off with the three sources as they stand, or sweep finished. -/
inductive WaterEvent where
  | hold (on latch alarmSource officeHold : Bool)
  | sweepFinished
  deriving DecidableEq, Repr

inductive ReportBody where
  | cut (r : CutReport)
  | alarm (r : AlarmReport)
  | stock (event : StockEvent) (slab : Nat)
  | water (event : WaterEvent)
  deriving DecidableEq, Repr

/-- A report in the report queue: its kind and payload, the seconds counter when it was queued, its gap mark (R175). -/
structure Report where
  body : ReportBody
  time : Nat
  gap  : Bool
  deriving DecidableEq, Repr

/-- The alarm action table, the pending alarm table in order of creation, the report queue and the noted gap. -/
structure Alarms where
  actions  : List ActionEntry
  entries  : List AlarmEntry
  reports  : List Report
  gapNoted : Bool
  deriving DecidableEq, Repr

/-! ### Office port and request handler (08, 10) -/

/-- The office port's receiving side (R181): hunting; receiving the header bytes; or receiving body and check after a
header. `slot` says whether the frame took an input slot. -/
inductive Receiver where
  | hunting
  | header (slot : Bool)
  | body (slot : Bool) (bytes : List Byte)
  deriving DecidableEq, Repr

/-- A received REQUEST frame (R149): origin and tag as the frame gave them, and its items. -/
structure Request where
  origin : Nat
  tag    : Nat
  items  : List RawItem
  deriving DecidableEq, Repr

/-- The result codes, in the order of the result code table (08), numbered from 0 (10). -/
inductive ResultCode where
  | ok
  | held
  | denied
  | badItem
  | badValue
  | noContext
  | noSuch
  | wrongState
  | full
  | noBasis
  | stepOrder
  | stepFlagged
  | stepBlocked
  | stepUnresolved
  | cutterBusy
  | toolWorn
  | cutterStopped
  | jobStopped
  | jobClosed
  | busy
  | notFlagged
  | notTaken
  deriving DecidableEq, Repr

/-- One result of a REPLY (R158): its code and its data. -/
structure Result where
  code : ResultCode
  data : List Byte
  deriving DecidableEq, Repr

/-- The frame the request handler has begun (R150): the items not yet looked at and the results so far, in order. -/
structure InHand where
  origin  : Nat
  tag     : Nat
  items   : List RawItem
  results : List Result
  deriving DecidableEq, Repr

/-- A frame being sent on the office link (R160). -/
inductive OfficeFrame where
  | reply (bytes : List Byte)
  | report (bytes : List Byte)
  deriving DecidableEq, Repr

/-- The office port (R148, R160). -/
structure Office where
  receiver : Receiver
  received : List Request
  replies  : List (List Byte)
  sending  : Option OfficeFrame
  deriving DecidableEq, Repr

/-- The context of an origin (R152, R155). -/
structure Context where
  job      : Option Nat
  onCutter : Option Nat
  slab     : Option Nat
  deriving DecidableEq, Repr

/-- An origin record (R152). `areas` is the set of R179: bit 0 STOCK, then PLAN, WORK, WATER, JOB, TABLE, READ, ALARM. -/
structure Origin where
  number : Nat
  cls    : Nat
  areas  : Byte
  ctx    : Context
  deriving DecidableEq, Repr

/-- The origin table, the open level and the frame in hand. -/
structure Handler where
  origins   : List Origin
  openLevel : Nat
  inHand    : Option InHand
  deriving DecidableEq, Repr

/-! ### The whole part -/

/-- The state of the part, block by block (00, Block overview), with the queue of waiting commands (log entry 1) and the
model's counter of free values drawn (log entry 4). -/
structure State where
  pending   : List Instr
  seconds   : Nat
  freeCount : Nat
  stock     : Stock
  plans     : PlanTable
  cutting   : Cutting
  cost      : Cost
  water     : Water
  gate      : Gate
  line      : LinePort
  alarms    : Alarms
  office    : Office
  handler   : Handler
  deriving DecidableEq, Repr

/-- The part never stops with a fault: the spec answers every error by a result code, a NAK, a discard or an alarm
(R149, R166, R183; log entry 25). No constructor. Safe. -/
inductive Fault where
  deriving DecidableEq, Repr

/-- The interface's refusal for a command without a meaning. Raised by no arm of this model. Safe. -/
inductive Refusal where
  | notModelled (mnemonic : String)
  deriving DecidableEq, Repr

/-! ### Power-on -/

/-- The geometry of a new record (R1): nothing cut yet. -/
def Geometry.uncut (width : Nat) : Geometry := { y0 := 0, wr := width, strips := [] }

/-- A context with every field absent. -/
def Context.empty : Context := { job := none, onCutter := none, slab := none }

/-- A job record with every sum and count 0, no quote and both marks cleared (R75, R77). -/
def Job.fresh (number : Nat) (state : JobState) : Job :=
  { number := number, state := state, quote := none, material := 0, tool := 0, water := 0, time := 0, total := 0,
    pieces := 0, flawed := 0, outOfTol := 0, overflow := false, overQuote := false }

/-- The job table after power-on (R75): job 0 OPEN, jobs 1 to 63 CLOSED. -/
def Cost.resetJobs : List Job :=
  (List.range 64).map fun n => Job.fresh n (if n = 0 then .opened else .closed)

/-- The alarm action table after power-on: the defaults of R167. -/
def Alarms.defaultActions : List ActionEntry :=
  [⟨.channelLimit, 3, .report⟩, ⟨.waterCritical, 6, .report⟩, ⟨.channelStale, 5, .report⟩,
   ⟨.stationUnreachable, 6, .report⟩, ⟨.holdUnacked, 7, .report⟩, ⟨.cutTimeout, 5, .cutterStop⟩,
   ⟨.lateCompletion, 4, .report⟩, ⟨.echoMismatch, 6, .cutterStop⟩, ⟨.cutterFault, 6, .report⟩,
   ⟨.toolLow, 2, .report⟩, ⟨.toolWorn, 4, .report⟩, ⟨.jobOverQuote, 3, .report⟩,
   ⟨.costOverflow, 3, .report⟩, ⟨.stockFull, 4, .report⟩, ⟨.remnantScrapped, 2, .report⟩,
   ⟨.flawOnIssued, 5, .report⟩]

/-- The scan engine after power-on (R102). -/
def Engine.idle : Engine :=
  { mode := none, scanList := [], single := none, position := none, run := 0, inFlight := none, lastPassEnd := none,
    due := false }

/-- The transaction settings after power-on (R144). -/
def TxSettings.default : TxSettings := { window := 20, retries := 2, readerInterval := 1 }

/-- Origin 0 after power-on (R152): class 0, all eight areas, empty context. -/
def Origin.first : Origin := { number := 0, cls := 0, areas := 255#8, ctx := Context.empty }

/-- The part after power-on, each block as its chapter gives it (R1, R12, R13, R15, R19, R41, R43, R55, R75, R80, R95,
R102, R111, R129, R135, R136, R141, R144, R148, R152, R167, R169, R176, R181; log entry 23). -/
def State.reset : State :=
  { pending := []
    seconds := 0
    freeCount := 0
    stock := { slabs := [], recency := [], nextId := 4000000000, minWidth := 300, minLength := 600 }
    plans := { plans := [], tolerance := 2 }
    cutting := { cutters := [], records := [], lastId := 15 }
    cost := { jobs := Cost.resetJobs, loopRate := 0, freshRate := 0 }
    water := { channels := [], engine := Engine.idle, staleDue := [] }
    gate := { level := none, turbidity := none, returnFlow := none, makeup := none, marks := ⟨0, 0, 0, 0, 0⟩,
              latch := false, alarmSource := false, officeHold := false, lineHold := false, waiting := [],
              makeupRef := none, makeupRem := 0, makeupCount := 0 }
    line := { roster := [], queue := [], broadcast := none, pendingBroadcast := none, active := .default,
              pendingSet := .default, staleness := 10, passInterval := 2, rotation := 0, holder := .free,
              receiving := none, out := none, reports := [] }
    alarms := { actions := Alarms.defaultActions, entries := [], reports := [], gapNoted := false }
    office := { receiver := .hunting, received := [], replies := [], sending := none }
    handler := { origins := [Origin.first], openLevel := 0, inHand := none } }

end Sys2Proof.Machine
end

