-- ==== Sys2Proof/Machine/Tables.lean ====
section
/-! DEFINITION. Keyed tables. A table of the part (slabs, plans, cutters, live cut records, jobs, channels, stations,
origins) is a list of records found by their number; a record not listed is an empty or undefined place. -/

namespace Sys2Proof.Machine

variable {α : Type}

/-- The record with key `k`, if the table holds one. -/
def lookup (key : α → Nat) (k : Nat) (l : List α) : Option α := l.find? fun a => key a == k

/-- Puts a record into the table: in the place of the one with its key, or as a new one in rising order of keys. -/
def put (key : α → Nat) (a : α) : List α → List α
  | [] => [a]
  | b :: l => if key a < key b then a :: b :: l else if key a = key b then a :: l else b :: put key a l

/-- Takes the record with key `k` out of the table. -/
def remove (key : α → Nat) (k : Nat) (l : List α) : List α := l.filter fun a => key a != k

/-- The lowest of 1, 2, …, n that `used` does not hold. -/
def lowestFree (used : List Nat) (n : Nat) : Option Nat := (List.range n).map (· + 1) |>.find? fun k => !used.contains k

end Sys2Proof.Machine
end

