-- ==== Sys2Proof/Machine/Flags.lean ====
section
/-! DEFINITION. Every mark, state and condition that the spec computes from other state: the tool state (R46), the compare
state (R98), staleness (R100), ages of the seconds counter, the marks of a job (R92, R93), the conditions of the
critical latch (R115), the alarm hold source (R171), the occupation of the input buffer and the ready line (R148), and
what an origin may send (R153). -/

namespace Sys2Proof.Machine

/-! ### The seconds counter (32 bits; log entry 5) -/

/-- The counter after one more second. -/
def nextSecond (t : Nat) : Nat := (t + 1) % 4294967296
/-- The seconds counter `d` seconds after `t`. -/
def secondsAfter (t d : Nat) : Nat := (t + d) % 4294967296
/-- The seconds from `t` to `now`, counted on a counter of 32 bits: the age of a value (R95). -/
def secondsSince (now t : Nat) : Nat := (now + 4294967296 - t) % 4294967296
/-- Whether the counter has reached `t`: at `t` or past it by less than half of the counter's range (log entry 5). -/
def reached (now t : Nat) : Bool := secondsSince now t < 2147483648

/-! ### Cutter -/

/-- The tool state of a remaining life against the new tool life (R46). -/
def toolStateOf (life newLife : Nat) : ToolState :=
  if life = 0 then .worn else if life * 10 < newLife then .low else .good
/-- The tool state of a cutter (R46). -/
def Cutter.toolState (c : Cutter) : ToolState := toolStateOf c.life c.settings.newLife
/-- Whether a record has reached SENT or later (R57, R72). -/
def RecordState.sentOrLater : RecordState → Bool
  | .waiting => false
  | .sent | .queued | .executing | .held => true
/-- Whether a record is EXECUTING or HELD (R56). -/
def RecordState.atWork : RecordState → Bool
  | .executing | .held => true
  | .waiting | .sent | .queued => false
/-- The echo of a record (R55). -/
def CutRecord.echo (r : CutRecord) : Echo := ⟨r.id, r.slab, r.number⟩

/-! ### Step -/

/-- The kind of a step. -/
def Step.kind (st : Step) : StepKind :=
  match st.cut with
  | .rip _ => .rip
  | .cross _ _ _ => .cross
  | .series _ _ _ _ => .series
/-- The planned width of a RIP or planned length of a CROSS or SERIES piece. -/
def Step.length (st : Step) : Nat :=
  match st.cut with
  | .rip w => w
  | .cross _ l _ => l
  | .series _ l _ _ => l
/-- The end a CROSS or SERIES is cut from. -/
def Step.side (st : Step) : Option Side :=
  match st.cut with
  | .rip _ => none
  | .cross side _ _ => some side
  | .series side _ _ _ => some side
/-- The remaining count (R20): n minus the done count for a SERIES, 1 for a RIP or CROSS that is not DONE. -/
def Step.remaining (st : Step) : Nat :=
  match st.cut with
  | .series _ _ n _ => n - st.done
  | .rip _ | .cross _ _ _ => if st.state = .done then 0 else 1
/-- The open state of a step (R21). -/
def Step.openState (st : Step) : StepState := if st.done = 0 then .pending else .partly

/-! ### Slab -/

/-- The job a slab is reserved to or cut for (R1). -/
def SlabState.job : SlabState → Option Nat
  | .stocked => none
  | .reserved j => some j
  | .onBed j _ => some j
/-- The cutter a slab is on (R1). -/
def SlabState.onCutter : SlabState → Option Nat
  | .onBed _ c => some c
  | .stocked | .reserved _ => none
/-- Whether the slab is in stock. -/
def Slab.isStocked (sl : Slab) : Bool := sl.state == .stocked
/-- Whether the slab is reserved. -/
def Slab.isReserved (sl : Slab) : Bool := match sl.state with
  | .reserved _ => true
  | .stocked | .onBed _ _ => false

/-! ### Channel -/

/-- The compare state of a value against the limits (R98). -/
def compareOf (low high : Option Nat) (reading : Option Reading) : CompareState :=
  match reading with
  | none => .none
  | some r =>
    if low.isNone && high.isNone then .none
    else if low.any (r.value < ·) then .below
    else if high.any (· < r.value) then .above
    else .within
/-- Whether a recomputation enters BELOW or ABOVE from another state (R98). -/
def entersOutside (before after : CompareState) : Bool := (after == .below || after == .above) && before != after
/-- Whether the channel is stale by R100: value absent, or older than the staleness limit. -/
def Channel.staleAt (ch : Channel) (now limit : Nat) : Bool :=
  match ch.reading with
  | none => true
  | some r => limit < secondsSince now r.time
/-- The largest value of a channel kind (R95). -/
def ChannelKind.maxValue : ChannelKind → Nat
  | .level => 65535
  | .turbidity | .flow => 10000

/-- The role a channel holds (R112), numbered from 1 in the order of R111: level, turbidity, return flow, makeup. -/
def Gate.roleOf (g : Gate) (n : Nat) : Option Nat :=
  if g.level = some n then some 1
  else if g.turbidity = some n then some 2
  else if g.returnFlow = some n then some 3
  else if g.makeup = some n then some 4
  else none

/-- Whether a channel is in a running scan (R102). -/
def Engine.scans (e : Engine) (n : Nat) : Bool :=
  match e.mode with
  | none => false
  | some .single => e.single == some n
  | some .sweep | some .continuous => e.scanList.contains n
/-- Whether the poll in flight belongs to the current run of a RUNNING engine (R106). -/
def Engine.flightIsCurrent (e : Engine) : Bool := e.mode.isSome && e.inFlight.any fun p => p.run == e.run

/-! ### Water gate -/

/-- The channel of a role. -/
def Water.channelOf (w : Water) (role : Option Nat) : Option Channel :=
  role.bind fun n => lookup Channel.number n w.channels
/-- The value of a role (R112): absent when unassigned or without a value. -/
def Water.valueOf (w : Water) (role : Option Nat) : Option Nat := (w.channelOf role).bind fun c => c.reading.map Reading.value
/-- Whether a role is fresh (R112): assigned, with the channel's stale mark cleared. -/
def Water.fresh (w : Water) (role : Option Nat) : Bool := (w.channelOf role).any fun c => !c.stale
/-- The level part of the latch's set condition (R115), tested on any value held. -/
def levelCritical (g : Gate) (w : Water) : Bool := (w.valueOf g.level).any (· < g.marks.critical)
/-- The turbidity part of the latch's set condition (R115). -/
def turbidityCritical (g : Gate) (w : Water) : Bool := (w.valueOf g.turbidity).any (g.marks.turbCritical < ·)
/-- The latch's clear condition (R115). -/
def latchClears (g : Gate) (w : Water) : Bool :=
  w.fresh g.level && w.fresh g.turbidity && (w.valueOf g.level).any (g.marks.resume ≤ ·) &&
    (w.valueOf g.turbidity).any (· ≤ g.marks.turbLimit)
/-- Line hold as its three sources give it (R117). -/
def Gate.wantsHold (g : Gate) : Bool := g.latch || g.alarmSource || g.officeHold

/-! ### Alarm unit -/

/-- The entry of a kind in the alarm action table (R167). -/
def Alarms.entryOf (a : Alarms) (k : AlarmKind) : ActionEntry :=
  (a.actions.find? fun e => e.kind == k).getD ⟨k, 1, .report⟩
/-- The action a kind holds. -/
def Alarms.actionOf (a : Alarms) (k : AlarmKind) : AlarmAction := (a.entryOf k).action
/-- The number of pending entries whose kind has the LINE_HOLD action (R171). -/
def Alarms.holdCount (a : Alarms) : Nat := (a.entries.filter fun e => a.actionOf e.kind == .lineHold).length
/-- Whether a pending alarm with this action names the subject, among kinds whose subject is of one sort (R168). -/
def Alarms.stops (a : Alarms) (action : AlarmAction) (subject : Nat) : Bool :=
  a.entries.any fun e => a.actionOf e.kind == action && e.subject == subject
/-- Kinds whose subject is a cutter (R167). -/
def AlarmKind.subjectIsCutter : AlarmKind → Bool
  | .holdUnacked | .cutTimeout | .lateCompletion | .echoMismatch | .cutterFault | .toolLow | .toolWorn => true
  | _ => false
/-- Kinds whose subject is a job (R167). -/
def AlarmKind.subjectIsJob : AlarmKind → Bool
  | .jobOverQuote | .costOverflow => true
  | _ => false

/-! ### Office port and request handler -/

/-- Whether a receiver holds an input slot. -/
def Receiver.slots : Receiver → Nat
  | .hunting => 0
  | .header slot => if slot then 1 else 0
  | .body slot _ => if slot then 1 else 0
/-- Whether the frame being sent holds an input slot: a REPLY does until it has gone (R148). -/
def OfficeFrame.slots : OfficeFrame → Nat
  | .reply _ => 1
  | .report _ => 0
/-- The occupied slots of the input buffer (R148): the frame arriving in a slot, the frames received, the frame in hand,
the REPLY frames waiting and the REPLY being sent (log entry 12). -/
def State.occupied (s : State) : Nat :=
  s.office.receiver.slots + s.office.received.length + (if s.handler.inHand.isSome then 1 else 0) +
    s.office.replies.length + (match s.office.sending with | none => 0 | some f => f.slots)
/-- The ready line (R148): raised while a slot is free. -/
def State.readyLine (s : State) : Bool := s.occupied < Config.inputSlots

/-- The areas of the office items (08), CONTEXT outside the areas. -/
inductive Area where
  | context
  | stock
  | plan
  | work
  | water
  | job
  | table
  | read
  | alarm
  deriving DecidableEq, Repr

/-- The bit of an area in an area set (R179). -/
def Area.bit : Area → Nat
  | .context => 8
  | .stock => 0
  | .plan => 1
  | .work => 2
  | .water => 3
  | .job => 4
  | .table => 5
  | .read => 6
  | .alarm => 7
/-- Whether an origin's set holds an area. -/
def Origin.has (o : Origin) (a : Area) : Bool := o.areas.getLsbD a.bit
/-- Whether a defined origin may send items of an area at an open level (R153). -/
def Origin.maySend (o : Origin) (openLevel : Nat) (a : Area) : Bool :=
  match a with
  | .context => true
  | .table => o.cls == 0 && o.has .table
  | .stock | .plan | .work | .water | .job | .read | .alarm => o.cls ≤ openLevel || o.has a
/-- Whether the table holds an origin of class 0 with TABLE in its set (R152). -/
def keepsTable (origins : List Origin) : Bool := origins.any fun o => o.cls == 0 && o.has .table

end Sys2Proof.Machine
end

