-- ==== Sys2Proof/Machine/Encode.lean ====
section
/-! DEFINITION. The bytes the part writes (spec/10): floor frames and their payloads (R183), REPLY and REPORT frames, the
payloads of reports (R175) and the data of results (R159), by the conventions of R179: named choices numbered from 1 in
the order their chapter lists them, marks 1 or 0, a presence byte before a field that may be absent, a count byte
before a list. A field that a record has only for some of its kinds is taken as one that may be absent (log entry 7). -/

namespace Sys2Proof.Machine

/-- A mark or flag: 1 set, 0 cleared (R179). -/
def beMark (b : Bool) : List Byte := be1 (if b then 1 else 0)
/-- A field that may be absent, behind its presence byte (R179). -/
def beField {α : Type} (be : α → List Byte) : Option α → List Byte
  | none => be1 0
  | some a => be1 1 ++ be a
/-- A field that is there, and one that is absent (R179). -/
def present (bytes : List Byte) : List Byte := be1 1 ++ bytes
def absent : List Byte := be1 0
/-- A list behind its count byte (R179). -/
def beList {α : Type} (be : α → List Byte) (l : List α) : List Byte := be1 l.length ++ l.flatMap be

/-! ### Numbers of the named choices (R179) -/

def StepKind.code : StepKind → Nat
  | .rip => 1
  | .cross => 2
  | .series => 3
def Side.code : Side → Nat
  | .near => 1
  | .far => 2
def StepState.code : StepState → Nat
  | .pending => 1
  | .flagged => 2
  | .blocked => 3
  | .partly => 4
  | .issued => 5
  | .unresolved => 6
  | .done => 7
  | .skipped => 8
def CutterKind.code : CutterKind → Nat
  | .blade => 1
  | .jet => 2
def ToolState.code : ToolState → Nat
  | .good => 1
  | .low => 2
  | .worn => 3
def CutterState.code : CutterState → Nat
  | .idle => 1
  | .loaded => 2
  | .working => 3
  | .faulted => 4
def RecordState.code : RecordState → Nat
  | .waiting => 1
  | .sent => 2
  | .queued => 3
  | .executing => 4
  | .held => 5
def FailReason.code : FailReason → Nat
  | .cutterFault => 1
  | .aborted => 2
  | .toolWorn => 3
  | .unreachable => 4
  | .echoMismatch => 5
  | .restart => 6
/-- The end of a cut record: one byte, and for FAILED one byte of its reason (R179). -/
def Ending.bytes : Ending → List Byte
  | .done => be1 1
  | .stopped => be1 2
  | .timedOut => be1 3
  | .failed r => be1 4 ++ be1 r.code
def JobState.code : JobState → Nat
  | .opened => 1
  | .closed => 2
def ChannelKind.code : ChannelKind → Nat
  | .level => 1
  | .turbidity => 2
  | .flow => 3
def CompareState.code : CompareState → Nat
  | .none => 1
  | .within => 2
  | .below => 3
  | .above => 4
def ScanMode.code : ScanMode → Nat
  | .single => 1
  | .sweep => 2
  | .continuous => 3
def StationKind.code : StationKind → Nat
  | .cutter => 1
  | .reader => 2
  | .node => 3
def Link.code : Link → Nat
  | .unknown => 1
  | .up => 2
  | .unreachable => 3
/-- The command byte of a broadcast (10, COMMAND payload): 3 HOLD, 4 RESUME. -/
def BroadcastKind.code : BroadcastKind → Nat
  | .hold => 3
  | .resume => 4
def AlarmKind.code : AlarmKind → Nat
  | .channelLimit => 1
  | .waterCritical => 2
  | .channelStale => 3
  | .stationUnreachable => 4
  | .holdUnacked => 5
  | .cutTimeout => 6
  | .lateCompletion => 7
  | .echoMismatch => 8
  | .cutterFault => 9
  | .toolLow => 10
  | .toolWorn => 11
  | .jobOverQuote => 12
  | .costOverflow => 13
  | .stockFull => 14
  | .remnantScrapped => 15
  | .flawOnIssued => 16
def AlarmAction.code : AlarmAction → Nat
  | .report => 1
  | .cutterStop => 2
  | .jobStop => 3
  | .lineHold => 4
def StockEvent.code : StockEvent → Nat
  | .created => 1
  | .updated => 2
  | .removed => 3
  | .remnantCreated => 4
  | .remnantScrapped => 5
/-- The result code table of 08, numbered from 0 (10). -/
def ResultCode.code : ResultCode → Nat
  | .ok => 0
  | .held => 1
  | .denied => 2
  | .badItem => 3
  | .badValue => 4
  | .noContext => 5
  | .noSuch => 6
  | .wrongState => 7
  | .full => 8
  | .noBasis => 9
  | .stepOrder => 10
  | .stepFlagged => 11
  | .stepBlocked => 12
  | .stepUnresolved => 13
  | .cutterBusy => 14
  | .toolWorn => 15
  | .cutterStopped => 16
  | .jobStopped => 17
  | .jobClosed => 18
  | .busy => 19
  | .notFlagged => 20
  | .notTaken => 21

/-! ### Floor frames (R183) -/

/-- A floor frame: start byte 90, address, kind, payload length, payload, check. -/
def floorFrame (address kind : Nat) (payload : List Byte) : List Byte :=
  let covered := be1 address ++ be1 kind ++ be1 payload.length ++ payload
  be1 90 ++ covered ++ be2 (crc16 covered)
/-- A POLL of a station with a sensor index (R139). -/
def pollFrame (address index : Nat) : List Byte := floorFrame address 2 (be1 index)
/-- The ACK or NAK that closes a poll, or answers an answer out of place (R140). -/
def ackFrame (address : Nat) (ack : Bool) : List Byte := floorFrame address (if ack then 3 else 4) []
/-- HOLD or RESUME, to address 0 or to a station (R142, R143). -/
def broadcastFrame (address : Nat) (k : BroadcastKind) : List Byte := floorFrame address 1 (be1 k.code)
/-- The START body of a record (10, START body). -/
def startBody (r : CutRecord) : List Byte :=
  be1 r.id ++ be4 r.slab ++ be1 r.number ++ be1 r.stepKind.code ++ be2 r.travel ++ be1 r.strip ++
    be1 ((r.side.map Side.code).getD 0) ++ be2 r.length ++ be2 r.stripWidth ++
    beList (fun p : PlannedPiece => be2 p.lo ++ be2 p.hi ++ be4 p.piece) r.pieces
/-! ### Office frames -/

/-- An office frame: start byte 165, kind, origin, tag, count, body length, body, check (log entry 17). -/
def officeFrame (kind origin tag count : Nat) (body : List Byte) : List Byte :=
  let covered := be1 kind ++ be1 origin ++ be2 tag ++ be1 count ++ be2 body.length ++ body
  be1 165 ++ covered ++ be2 (crc16 covered)
/-- One result of a REPLY: code, data length, data. -/
def Result.bytes (r : Result) : List Byte := be1 r.code.code ++ be2 r.data.length ++ r.data
/-- The REPLY to a frame (R158): its origin and tag, and one result for each item. -/
def replyFrame (origin tag : Nat) (results : List Result) : List Byte :=
  officeFrame 2 origin tag results.length (results.flatMap Result.bytes)

/-- A stored length with its flawed and tolerance marks beside it (R42, R175; log entry 7). -/
def StoredLength.bytes (p : StoredLength) : List Byte := be2 p.length ++ beMark p.flawed ++ beMark p.tolerance

/-- The payload of a report (R175), its fields in the order that rule lists them. The kind and the subject of a displaced
entry are two fields that may be absent, and so are the three sources of a WATER report, which the end of a sweep does
not carry: each stands behind its own presence byte (R179; log entry 7). -/
def ReportBody.bytes : ReportBody → List Byte
  | .cut r =>
    be1 r.cutId ++ be1 r.onCutter ++ be4 r.slab ++ be1 r.number ++ be1 r.job ++ r.ending.bytes ++ be1 r.pieces ++
      beList StoredLength.bytes r.stored ++ beMark r.abortFlag ++ beMark r.late ++ be4 r.material ++ be4 r.tool ++
      be4 r.water ++ be4 r.time
  | .alarm r =>
    be1 r.kind.code ++ be4 r.subject ++ be1 r.priority ++ be1 r.count ++ beMark r.notKept ++
      beField be1 (r.displaced.map fun d => d.1.code) ++ beField be4 (r.displaced.map fun d => d.2)
  | .stock event slab => be1 event.code ++ be4 slab
  | .water (.hold on latch alarmSource officeHold) =>
    be1 (if on then 1 else 2) ++ present (beMark latch) ++ present (beMark alarmSource) ++ present (beMark officeHold)
  | .water .sweepFinished => be1 3 ++ absent ++ absent ++ absent
/-- The number of a report's kind (10, report header). -/
def ReportBody.code : ReportBody → Nat
  | .cut _ => 1
  | .alarm _ => 2
  | .stock _ _ => 3
  | .water _ => 4
/-- A REPORT frame (10): origin 255, tag 0, count 0; report kind, seconds counter, gap mark, payload. -/
def reportFrame (r : Report) : List Byte :=
  officeFrame 3 255 0 0 (be1 r.body.code ++ be4 r.time ++ beMark r.gap ++ r.body.bytes)

/-! ### The data of results (R159) -/

/-- The three context fields (R156, R157). -/
def Context.bytes (c : Context) : List Byte := beField be1 c.job ++ beField be1 c.onCutter ++ beField be4 c.slab
/-- An origin record (R161). -/
def Origin.bytes (o : Origin) : List Byte := be1 o.number ++ be1 o.cls ++ [o.areas] ++ o.ctx.bytes
/-- A flaw zone. -/
def zoneBytes (z : Zone) : List Byte := be2 z.xFrom ++ be2 z.xTo ++ be2 z.yFrom ++ be2 z.yTo
/-- A strip of a geometry (R22). -/
def Strip.bytes (st : Strip) : List Byte :=
  be1 st.number ++ be2 st.yFrom ++ be2 st.width ++ be2 st.near ++ be2 st.far
def SlabState.code : SlabState → Nat
  | .stocked => 1
  | .reserved _ => 2
  | .onBed _ _ => 3
/-- A slab record (R10), its fields in the order of R1. -/
def Slab.bytes (sl : Slab) : List Byte :=
  be4 sl.id ++ be1 sl.lot ++ be2 sl.length ++ be2 sl.width ++ be1 sl.thickness ++ beField be4 sl.basis ++
    be1 sl.state.code ++ beField be1 sl.state.job ++ beField be1 sl.state.onCutter ++ beMark sl.remnant.isSome ++
    beField be4 (sl.remnant.map RemnantTag.parent) ++ beField be1 (sl.remnant.map RemnantTag.slot) ++
    beList zoneBytes sl.zones ++ be2 sl.geom.y0 ++ be2 sl.geom.wr ++ beList Strip.bytes sl.geom.strips
/-- The fields of a step's kind, and the strip k that every kind has, in the order of R20: width, strip, end, length, count,
piece id, first piece id; each that the kind does not have is absent (log entry 7). -/
def StepCut.bytes (strip : Nat) : StepCut → List Byte
  | .rip w => present (be2 w) ++ be1 strip ++ absent ++ absent ++ absent ++ absent ++ absent
  | .cross side l piece =>
    absent ++ be1 strip ++ present (be1 side.code) ++ present (be2 l) ++ absent ++ present (be4 piece) ++ absent
  | .series side l n first =>
    absent ++ be1 strip ++ present (be1 side.code) ++ present (be2 l) ++ present (be1 n) ++ absent ++
      present (be4 first)
/-- A planned geometry (R20): the y range of a RIP; the strip width and x ranges of a CROSS or SERIES. -/
def plannedBytes (kind : StepKind) (rs : List Rect) : List Byte :=
  match kind with
  | .rip => rs.flatMap fun r => be2 r.y0 ++ be2 r.y1
  | .cross | .series =>
    be2 ((rs.head?.map fun r => r.y1 - r.y0).getD 0) ++ beList (fun r : Rect => be2 r.x0 ++ be2 r.x1) rs
/-- A step record (R42), its fields in the order of R20. -/
def Step.bytes (st : Step) : List Byte :=
  be1 st.number ++ be1 st.kind.code ++ be1 st.job ++ st.cut.bytes st.strip ++ be1 st.state.code ++
    beMark st.accepted ++ be1 st.done ++ beList StoredLength.bytes st.stored ++
    beField (plannedBytes st.kind) st.planned
/-- A plan (R42) with the kerf in use. -/
def Plan.bytes (p : Plan) (kerf : Nat) : List Byte :=
  be4 p.slab ++ be1 p.loadKerf ++ be1 kerf ++ beList Step.bytes p.steps
def Echo.bytes (e : Echo) : List Byte := be1 e.cutId ++ be4 e.slab ++ be1 e.number
/-- The planned pieces of a cut record, in the order of R55: the count; for a RIP the width and the y range; for a CROSS or
SERIES the strip, end, length and strip width, then the list of x ranges and piece ids. What the kind does not have is
absent, and the list of a RIP is empty (log entry 7). -/
def CutRecord.plannedBytes (r : CutRecord) : List Byte :=
  be1 r.pieces.length ++
    match r.stepKind with
    | .rip =>
      present (be2 r.length) ++ beField (fun p : PlannedPiece => be2 p.lo ++ be2 p.hi) r.pieces.head? ++ absent ++
        absent ++ absent ++ absent ++ be1 0
    | .cross | .series =>
      absent ++ absent ++ present (be1 r.strip) ++ beField be1 (r.side.map Side.code) ++ present (be2 r.length) ++
        present (be2 r.stripWidth) ++ beList (fun p : PlannedPiece => be2 p.lo ++ be2 p.hi ++ be4 p.piece) r.pieces
/-- A cut record (R50), its fields in the order of R55; the expected time takes 2 bytes (log entry 7). -/
def CutRecord.bytes (r : CutRecord) : List Byte :=
  be1 r.id ++ be1 r.state.code ++ be1 r.onCutter ++ be4 r.slab ++ be1 r.number ++ be1 r.job ++ be1 r.stepKind.code ++
    be1 r.cutterKind.code ++ r.plannedBytes ++ be2 r.travel ++ be2 r.expected ++ beMark r.abortFlag ++ be2 r.timer
/-- A cutter record (R50), its fields in the order of R43, and its live records in slot order. -/
def Cutter.bytes (c : Cutter) (live : List CutRecord) : List Byte :=
  let st := c.settings
  be1 c.number ++ be1 c.address ++ be1 c.kind.code ++ be1 st.kerf ++ be1 st.overcut ++ be2 st.feed ++ be2 st.draw ++
    be2 st.overhead ++ be2 st.limit ++ be4 st.machineRate ++ be4 st.toolRate ++ be4 st.newLife ++ be4 c.life ++
    be1 c.toolState.code ++ be1 c.state.code ++ beField be4 c.slab ++ beList be1 c.slots ++ beMark c.holdMark ++
    beField Echo.bytes c.lastTaken ++
    beList (fun u : Uncertain => u.echo.bytes ++ be1 u.job ++ u.ending.bytes) c.uncertain ++
    beList CutRecord.bytes live
/-- A job record (R94), its fields in the order of R75, and the unit cost, in 4 bytes (log entry 7). -/
def Job.bytes (j : Job) (unit : Option Nat) : List Byte :=
  be1 j.number ++ be1 j.state.code ++ beField be4 j.quote ++ be4 j.material ++ be4 j.tool ++ be4 j.water ++ be4 j.time ++
    be4 j.total ++ be2 j.pieces ++ be2 j.flawed ++ be2 j.outOfTol ++ beMark j.overflow ++ beMark j.overQuote ++
    beField be4 unit
/-- A channel record (R101), its fields in the order of R95, then age, role, scan list and poll in flight; the age takes 4
bytes (log entry 7). -/
def Channel.bytes (ch : Channel) (age role : Option Nat) (listed inFlight : Bool) : List Byte :=
  be1 ch.number ++ be1 ch.address ++ be1 ch.index ++ be1 ch.kind.code ++ beField be2 ch.low ++ beField be2 ch.high ++
    beField be2 (ch.reading.map Reading.value) ++ beField be4 (ch.reading.map Reading.time) ++ be1 ch.compare.code ++
    beMark ch.stale ++ beMark ch.fault ++ beField be4 age ++ beField be1 role ++ beMark listed ++ beMark inFlight
def TxSettings.bytes (t : TxSettings) : List Byte := be2 t.window ++ be1 t.retries ++ be2 t.readerInterval
/-- One place of the roster (R164): empty, or its station with the bound cutter and next reader poll. -/
def stationBytes (st : Station) (bound : Option Nat) : List Byte :=
  be1 st.kind.code ++ be1 st.link.code ++ be1 st.failures ++ beField be1 bound ++
    beField be4 (if st.kind = .reader then st.nextPoll else none)
/-- The roster and the line settings (R164). -/
def State.rosterBytes (s : State) : List Byte :=
  ((List.range 24).flatMap fun i =>
    beField (fun st : Station => stationBytes st ((s.cutting.cutters.find? fun c => c.address == i + 1).map Cutter.number))
      (lookup Station.address (i + 1) s.line.roster)) ++
    s.line.active.bytes ++ s.line.pendingSet.bytes ++ be2 s.line.staleness ++ be2 s.line.passInterval ++
    be1 s.line.rotation ++ be1 s.line.queue.length ++
    beField (fun b : Broadcast => be1 b.kind.code) s.line.broadcast ++
    beField (fun k : BroadcastKind => be1 k.code) s.line.pendingBroadcast
/-- The water gate and the scan engine (R165). -/
def State.waterBytes (s : State) : List Byte :=
  let g := s.gate
  let e := s.water.engine
  beField be1 g.level ++ beField be1 g.turbidity ++ beField be1 g.returnFlow ++ beField be1 g.makeup ++
    be2 g.marks.low ++ be2 g.marks.critical ++ be2 g.marks.resume ++ be2 g.marks.turbLimit ++ be2 g.marks.turbCritical ++
    beMark g.latch ++ beMark g.alarmSource ++ beMark g.officeHold ++ be1 (if g.lineHold then 2 else 1) ++
    beField be4 g.makeupRef ++ be2 g.makeupRem ++ be4 g.makeupCount ++
    beList (fun id => be1 id ++ be1 (((lookup CutRecord.id id s.cutting.records).map CutRecord.onCutter).getD 0)) g.waiting ++
    be1 (if e.mode.isSome then 2 else 1) ++ beField (fun m : ScanMode => be1 m.code) e.mode ++ beField be1 e.single ++
    beField be1 e.position ++ beList be1 e.scanList ++ be1 e.run ++
    beField (fun p : PollRef => be1 p.number ++ be1 p.run) e.inFlight ++ beField be4 e.lastPassEnd
/-- A pending alarm with the action its kind holds (R173, R174). -/
def AlarmEntry.bytes (e : AlarmEntry) (action : AlarmAction) : List Byte :=
  be1 e.kind.code ++ be4 e.subject ++ be1 e.priority ++ be1 e.count ++ be4 e.first ++ be4 e.last ++ be1 action.code
/-- Puts an entry behind those it does not precede in TAKE ALARM's order (R173): higher priority first, older first. -/
def insertByPriority (e : AlarmEntry) : List AlarmEntry → List AlarmEntry
  | [] => [e]
  | f :: l => if f.priority < e.priority then e :: f :: l else f :: insertByPriority e l
/-- The pending alarms in the order TAKE ALARM would take them (R174). -/
def Alarms.takeOrder (a : Alarms) : List AlarmEntry := a.entries.foldl (fun l e => insertByPriority e l) []
/-- The pending alarm table and the action table (R174). Each of the 16 entries of the action table is written with its
kind's number before its priority and action (log entry 7). -/
def Alarms.bytes (a : Alarms) : List Byte :=
  beList (fun e => e.bytes (a.actionOf e.kind)) a.takeOrder ++ be1 a.entries.length ++ be1 a.holdCount ++
    a.actions.flatMap (fun e => be1 e.kind.code ++ be1 e.priority ++ be1 e.action.code) ++
    be1 a.reports.length ++ beMark a.gapNoted

end Sys2Proof.Machine
end

