-- ==== Sys2Proof/Machine/Geometry.lean ====
section
/-! DEFINITION. Slab geometry (spec/02): fit and consumption (R24), rectangles and flaws (R25), the projection's walk over
a plan (R26, R27), and the application of a completion's pieces (R31 to R34). Pure functions of a geometry, a step, a
kerf, a slab length and a flaw list. -/

namespace Sys2Proof.Machine

/-- A length fits a remaining amount (R24). -/
def fits (a kerf r : Nat) : Bool := a + kerf ≤ r || a == r
/-- The stored length of a length consumed from r: the lesser of the two (R24). -/
def storedOf (a r : Nat) : Nat := min a r
/-- The kerf consumed with it: the lesser of the kerf and what is left (R24). -/
def kerfOf (a kerf r : Nat) : Nat := min kerf (r - storedOf a r)
/-- How far the position advances: stored length plus kerf consumed (R24). -/
def advance (a kerf r : Nat) : Nat := storedOf a r + kerfOf a kerf r

/-- A rectangle overlaps a flaw zone with positive area, by the inequalities of R25; they are taken as they stand for an
empty rectangle too (log entry 27). -/
def Rect.overlaps (r : Rect) (z : Zone) : Bool :=
  r.x0 < z.xTo && z.xFrom < r.x1 && r.y0 < z.yTo && z.yFrom < r.y1
/-- A rectangle overlaps some zone of a flaw list. -/
def Rect.flawed (r : Rect) (zones : List Zone) : Bool := zones.any r.overlaps

/-- The strip with a number, if the geometry holds it. -/
def Geometry.strip? (g : Geometry) (k : Nat) : Option Strip := g.strips.find? fun s => s.number == k
/-- A strip's remaining length (R22). -/
def Strip.remaining (s : Strip) : Nat := s.far - s.near

/-- A RIP consumed at the rip front (R24, R26, R32): y0 advances, Wr shrinks by the same amount, and strip k joins the
end of the strip list. -/
def Geometry.rip (g : Geometry) (length k w kerf : Nat) : Geometry :=
  { y0 := g.y0 + advance w kerf g.wr
    wr := g.wr - advance w kerf g.wr
    strips := g.strips ++ [{ number := k, yFrom := g.y0, width := storedOf w g.wr, near := 0, far := length }] }
/-- The strip rectangle of a RIP consumed now (R25). -/
def Geometry.ripRect (g : Geometry) (length w : Nat) : Rect :=
  { x0 := 0, x1 := length, y0 := g.y0, y1 := g.y0 + storedOf w g.wr }

/-- A strip after a piece of length a (R24): near advances, or far moves back. -/
def Strip.consume (s : Strip) (side : Side) (a kerf : Nat) : Strip :=
  match side with
  | .near => { s with near := s.near + advance a kerf s.remaining }
  | .far => { s with far := s.far - advance a kerf s.remaining }
/-- The piece rectangle of a length consumed now (R25). -/
def Strip.pieceRect (s : Strip) (side : Side) (a : Nat) : Rect :=
  match side with
  | .near => { x0 := s.near, x1 := s.near + storedOf a s.remaining, y0 := s.yFrom, y1 := s.yFrom + s.width }
  | .far => { x0 := s.far - storedOf a s.remaining, x1 := s.far, y0 := s.yFrom, y1 := s.yFrom + s.width }

/-- Replaces the strip of the same number. -/
def Geometry.putStrip (g : Geometry) (st : Strip) : Geometry :=
  { g with strips := g.strips.map fun s => if s.number == st.number then st else s }

/-- `n` equal pieces fit in turn, each against what the pieces before it left (R24). -/
def fitsTimes (a kerf : Nat) : Nat → Nat → Bool
  | 0, _ => true
  | n + 1, r => fits a kerf r && fitsTimes a kerf n (r - advance a kerf r)

/-- `n` pieces of length a consumed in turn from a strip: the strip after them and their rectangles in cutting order. -/
def Strip.consumeTimes (side : Side) (a kerf : Nat) : Nat → Strip → Strip × List Rect
  | 0, s => (s, [])
  | n + 1, s =>
    let (s', rs) := Strip.consumeTimes side a kerf n (s.consume side a kerf)
    (s', s.pieceRect side a :: rs)

/-- What an unfinished step consumes from the working copy and the rectangles it gives, without a fit test (R26); none
when a CROSS or SERIES finds its strip absent. -/
def Geometry.consumeStep (g : Geometry) (length kerf : Nat) (st : Step) : Option (Geometry × List Rect) :=
  match st.cut with
  | .rip w => some (g.rip length st.strip w kerf, [g.ripRect length w])
  | .cross side a _ | .series side a _ _ =>
    (g.strip? st.strip).map fun s =>
      let (s', rs) := s.consumeTimes side a kerf st.remaining
      (g.putStrip s', rs)

/-- The step fits the working copy (R24, R27). A CROSS or SERIES whose strip is absent does not. -/
def Geometry.stepFits (g : Geometry) (kerf : Nat) (st : Step) : Bool :=
  match st.cut with
  | .rip w => fits w kerf g.wr
  | .cross _ a _ | .series _ a _ _ =>
    (g.strip? st.strip).any fun s => fitsTimes a kerf st.remaining s.remaining

/-- Whether the projection flags a step that fits (R27): a CROSS or SERIES with its mark cleared and some piece over a
flaw. -/
def Step.flags (st : Step) (zones : List Zone) (rs : List Rect) : Bool :=
  st.kind != .rip && !st.accepted && rs.any fun r => r.flawed zones

/-- The step as the projection leaves it when it takes no stone. -/
def Step.block (st : Step) : Step := { st with state := .blocked, planned := none }

/-- One step of the projection's walk (R26, R27): the working copy after it, and the step. -/
def projectStep (length kerf : Nat) (zones : List Zone) (g : Geometry) (st : Step) : Geometry × Step :=
  match st.state with
  | .done | .skipped => (g, { st with planned := none })
  | .issued | .unresolved =>
    match g.consumeStep length kerf st with
    | some (g', rs) => (g', { st with planned := some rs })
    | none => (g, { st with planned := none })
  | .pending | .flagged | .blocked | .partly =>
    if g.stepFits kerf st then
      match g.consumeStep length kerf st with
      | some (g', rs) =>
        (g', { st with planned := some rs, state := if st.flags zones rs then .flagged else st.openState })
      | none => (g, st.block)
    else (g, st.block)

/-- The projection's walk over the steps in number order (R26). -/
def projectSteps (length kerf : Nat) (zones : List Zone) : Geometry → List Step → List Step
  | _, [] => []
  | g, st :: rest =>
    let (g', st') := projectStep length kerf zones g st
    st' :: projectSteps length kerf zones g' rest

/-- The steps of a plan as the projection leaves them against a slab's recorded geometry and flaws (R26). -/
def projected (sl : Slab) (kerf : Nat) (steps : List Step) : List Step :=
  projectSteps sl.length kerf sl.zones sl.geom steps

/-! ### Applying a completion -/

/-- The end a cutter reports in a completion (R31, R67). -/
inductive CutEnd where
  | done
  | stopped
  | fault
  deriving DecidableEq, Repr

/-- The number of pieces to apply (R31). -/
def Step.toApply (st : Step) (e : CutEnd) (pieces : Nat) : Nat :=
  match e, st.kind with
  | .done, _ => st.remaining
  | .stopped, .series | .fault, .series => pieces
  | .stopped, .rip | .stopped, .cross | .fault, .rip | .fault, .cross => 0

/-- One applied piece: its stored length with its marks, and the kerf consumed (R32, R33, R35). -/
structure Applied where
  stored : StoredLength
  kerf   : Nat
  deriving DecidableEq, Repr

/-- The difference of two lengths, taken either way. -/
def difference (a b : Nat) : Nat := max a b - min a b

/-- Applies one piece to the recorded geometry (R32, R33): `measured` is the measured length, absent where the piece is
applied at its planned length and then has no tolerance mark. -/
def applyPiece (length kerf tolerance : Nat) (zones : List Zone) (st : Step) (measured : Option Nat) (g : Geometry) :
    Geometry × Applied :=
  let a := measured.getD st.length
  let outside := measured.any fun m => tolerance < difference m st.length
  match st.side with
  | none =>
    (g.rip length st.strip a kerf,
      { stored := { length := storedOf a g.wr, flawed := false, tolerance := outside }, kerf := kerfOf a kerf g.wr })
  | some side =>
    match g.strip? st.strip with
    | none => (g, { stored := { length := 0, flawed := st.accepted, tolerance := outside }, kerf := 0 })
    | some s =>
      let stored := storedOf a s.remaining
      let hit := 0 < stored && (s.pieceRect side a).flawed zones
      (g.putStrip (s.consume side a kerf),
        { stored := { length := stored, flawed := st.accepted || hit, tolerance := outside },
          kerf := kerfOf a kerf s.remaining })

/-- Applies `n` pieces in order; the i-th takes the i-th measured length (R31, R32). -/
def applyPieces (length kerf tolerance : Nat) (zones : List Zone) (st : Step) :
    Nat → List Nat → Geometry → Geometry × List Applied
  | 0, _, g => (g, [])
  | n + 1, ms, g =>
    let (g', p) := applyPiece length kerf tolerance zones st ms.head? g
    let (g'', ps) := applyPieces length kerf tolerance zones st n ms.tail g'
    (g'', p :: ps)

/-- The state a step takes after `n` of its pieces are applied (R34), the done count already grown. -/
def Step.stateAfter (before after : Step) (e : CutEnd) (n : Nat) : StepState :=
  match e with
  | .done => .done
  | .stopped | .fault =>
    match before.kind with
    | .series => if n = 0 then after.openState else if n < before.remaining then .partly else .done
    | .rip | .cross => after.openState

/-- The step after a completion (R31 to R34): done count, stored lengths with their marks, state. -/
def Step.afterApplied (st : Step) (e : CutEnd) (ps : List Applied) : Step :=
  let grown := match st.cut with
    | .series _ _ n _ => if e = .done then n else st.done + ps.length
    | .rip _ | .cross _ _ _ => st.done
  let st' := { st with done := grown, stored := st.stored ++ ps.map Applied.stored }
  { st' with state := st.stateAfter st' e ps.length }

/-- The area of stone the applied pieces took (R83): each piece's stored length plus kerf times the strip's width, or a
RIP's kerf times the slab's length. -/
def takenArea (kind : StepKind) (width length : Nat) (ps : List Applied) : Nat :=
  match kind with
  | .rip => (ps.map fun p => p.kerf * length).sum
  | .cross | .series => (ps.map fun p => (p.stored.length + p.kerf) * width).sum

end Sys2Proof.Machine
end

