-- ==== Sys2Proof/Machine/Ops.lean ====
section
/-! DEFINITION. The named operations over the state that the meanings share: the update of each block, the records of
each table, the report queue (R175, R178), line hold (R117) with the broadcasts it orders (R141), and raising an alarm
(R170, R171). -/

namespace Sys2Proof.Machine

/-! ### One update for each block -/

def State.setStock (s : State) (x : Stock) : State := { s with stock := x }
def State.setPlans (s : State) (x : PlanTable) : State := { s with plans := x }
def State.setCutting (s : State) (x : Cutting) : State := { s with cutting := x }
def State.setCost (s : State) (x : Cost) : State := { s with cost := x }
def State.setWater (s : State) (x : Water) : State := { s with water := x }
def State.setGate (s : State) (x : Gate) : State := { s with gate := x }
def State.setLine (s : State) (x : LinePort) : State := { s with line := x }
def State.setAlarms (s : State) (x : Alarms) : State := { s with alarms := x }
def State.setOffice (s : State) (x : Office) : State := { s with office := x }
def State.setHandler (s : State) (x : Handler) : State := { s with handler := x }
def State.setSeconds (s : State) (x : Nat) : State := { s with seconds := x }
def State.setFreeCount (s : State) (x : Nat) : State := { s with freeCount := x }
def State.setPending (s : State) (x : List Instr) : State := { s with pending := x }

/-! ### The records of the tables -/

def State.slab? (s : State) (id : Nat) : Option Slab := lookup Slab.id id s.stock.slabs
def State.putSlab (s : State) (sl : Slab) : State := s.setStock { s.stock with slabs := put Slab.id sl s.stock.slabs }
/-- Removes a slab record; a remnant's slot is freed with it and its id leaves the recency order (R9, R12, R16). -/
def State.dropSlab (s : State) (id : Nat) : State :=
  s.setStock { s.stock with
    slabs := remove Slab.id id s.stock.slabs
    recency := s.stock.recency.filter (· != id) }
/-- Moves a remnant's id to the head of the recency order (R12). A slab that is no remnant is not touched. -/
def State.touch (s : State) (id : Nat) : State :=
  s.setStock { s.stock with recency := id :: s.stock.recency.filter (· != id) }

def State.plan? (s : State) (slab : Nat) : Option Plan := lookup Plan.slab slab s.plans.plans
def State.putPlan (s : State) (p : Plan) : State := s.setPlans { s.plans with plans := put Plan.slab p s.plans.plans }
def State.dropPlan (s : State) (slab : Nat) : State :=
  s.setPlans { s.plans with plans := remove Plan.slab slab s.plans.plans }
/-- The step of a plan with a number. -/
def Plan.step? (p : Plan) (n : Nat) : Option Step := lookup Step.number n p.steps
/-- Puts a step back into its plan. -/
def Plan.putStep (p : Plan) (st : Step) : Plan := { p with steps := put Step.number st p.steps }

def State.cutter? (s : State) (n : Nat) : Option Cutter := lookup Cutter.number n s.cutting.cutters
def State.putCutter (s : State) (c : Cutter) : State :=
  s.setCutting { s.cutting with cutters := put Cutter.number c s.cutting.cutters }
/-- The defined cutter bound to a station address (R43). -/
def State.cutterAt (s : State) (address : Nat) : Option Cutter := s.cutting.cutters.find? fun c => c.address == address

def State.record? (s : State) (id : Nat) : Option CutRecord := lookup CutRecord.id id s.cutting.records
def State.putRecord (s : State) (r : CutRecord) : State :=
  s.setCutting { s.cutting with records := put CutRecord.id r s.cutting.records }
/-- The live records of a cutter, oldest first in slot order (R43, R50). -/
def State.liveOf (s : State) (c : Cutter) : List CutRecord := c.slots.filterMap s.record?

/-- The record of a job; every number 0 to 63 is always present (R75). -/
def State.job (s : State) (n : Nat) : Job := (lookup Job.number n s.cost.jobs).getD (Job.fresh n .closed)
def State.putJob (s : State) (j : Job) : State := s.setCost { s.cost with jobs := put Job.number j s.cost.jobs }
/-- Whether a job is OPEN. -/
def State.jobOpen (s : State) (n : Nat) : Bool := (s.job n).state == .opened

def State.channel? (s : State) (n : Nat) : Option Channel := lookup Channel.number n s.water.channels
def State.putChannel (s : State) (ch : Channel) : State :=
  s.setWater { s.water with channels := put Channel.number ch s.water.channels }
def State.setEngine (s : State) (e : Engine) : State := s.setWater { s.water with engine := e }

def State.station? (s : State) (address : Nat) : Option Station := lookup Station.address address s.line.roster
def State.putStation (s : State) (st : Station) : State :=
  s.setLine { s.line with roster := put Station.address st s.line.roster }
/-- Whether the roster holds a station of a kind at an address. -/
def State.stationIs (s : State) (address : Nat) (k : StationKind) : Bool := (s.station? address).any fun st => st.kind == k

def State.origin? (s : State) (n : Nat) : Option Origin := lookup Origin.number n s.handler.origins
def State.putOrigin (s : State) (o : Origin) : State :=
  s.setHandler { s.handler with origins := put Origin.number o s.handler.origins }

/-! ### The report queue (R175 to R178) -/

/-- A report is to join the report queue (R178): it joins at the tail, carrying the gap mark when a gap was noted; or,
with the queue full, it is discarded and a gap is noted. -/
def State.queueReport (s : State) (b : ReportBody) : State :=
  if s.alarms.reports.length < Config.maxReports then
    s.setAlarms { s.alarms with
      reports := s.alarms.reports ++ [{ body := b, time := s.seconds, gap := s.alarms.gapNoted }]
      gapNoted := false }
  else s.setAlarms { s.alarms with gapNoted := true }

/-- Queues a STOCK report. -/
def State.stockReport (s : State) (e : StockEvent) (id : Nat) : State := s.queueReport (.stock e id)

/-! ### Line hold (R117) and the broadcasts it orders (R141) -/

/-- An order of HOLD or RESUME at the line port (R141): it starts a broadcast, or becomes the pending order, in the place
of any that stood before, while a broadcast is in progress. -/
def State.orderBroadcast (s : State) (k : BroadcastKind) : State :=
  match s.line.broadcast with
  | none => s.setLine { s.line with
      broadcast := some
        { kind := k, begun := false, slots := [], missed := [], attempts := 0, removed := [], rebound := [] } }
  | some _ => s.setLine { s.line with pendingBroadcast := some k }

/-- Rewrites the broadcast in progress, if there is one. -/
def State.changeBroadcast (s : State) (f : Broadcast → Broadcast) : State :=
  s.setLine { s.line with broadcast := s.line.broadcast.map f }
/-- A cutter has been removed: the broadcast in progress has no slot for one defined anew under its number (R142). -/
def State.noteRemoved (s : State) (n : Nat) : State :=
  s.changeBroadcast fun b => { b with removed := b.removed.insert n }
/-- A cutter has been bound to another address: its slot in the broadcast in progress lapses, also when it is bound back
(R142). -/
def State.noteRebound (s : State) (n : Nat) : State :=
  s.changeBroadcast fun b => { b with rebound := b.rebound.insert n }

/-- Line hold recomputed from its three sources (R117). A change orders the broadcast and queues the WATER report; the
waiting list is the caller's to re-evaluate. -/
def State.recomputeHold (s : State) : State :=
  let on := s.gate.wantsHold
  if on = s.gate.lineHold then s
  else
    let s := s.setGate { s.gate with lineHold := on }
    let s := s.orderBroadcast (if on then .hold else .resume)
    s.queueReport (.water (.hold on s.gate.latch s.gate.alarmSource s.gate.officeHold))

/-- The alarm unit tells the gate whether LINE_HOLD entries are pending (R171), and line hold is recomputed (R119). -/
def State.tellAlarmSource (s : State) (active : Bool) : State :=
  (s.setGate { s.gate with alarmSource := active }).recomputeHold

/-! ### Raising an alarm (R170) -/

/-- Whether a pending entry may be displaced by an alarm of priority `p` (R170 case 3). -/
def Alarms.displaceable (a : Alarms) (p : Nat) (e : AlarmEntry) : Bool :=
  a.actionOf e.kind == .report && e.priority < p

/-- Of the entries given in order of creation, the oldest of the lowest priority (R170 case 3). -/
def lowestOldest : List AlarmEntry → Option AlarmEntry
  | [] => none
  | e :: l => match lowestOldest l with
    | none => some e
    | some f => if f.priority < e.priority then some f else some e

/-- The entry that a repeat counts (R170 case 1). -/
def AlarmEntry.isOf (k : AlarmKind) (subject : Nat) (e : AlarmEntry) : Bool := e.kind == k && e.subject == subject

/-- One more raise of a pending entry: its count grows and stops at 255, its last time is now (R170 case 1). -/
def AlarmEntry.repeated (e : AlarmEntry) (now : Nat) : AlarmEntry := { e with count := min 255 (e.count + 1), last := now }

/-- What the alarm unit does with a raise: the pending alarm table after it, what its ALARM report carries, and whether an
entry was created (R170). -/
def Alarms.raised (a : Alarms) (k : AlarmKind) (subject now : Nat) : List AlarmEntry × AlarmReport × Bool :=
  let p := (a.entryOf k).priority
  let fresh : AlarmEntry := { kind := k, subject := subject, priority := p, count := 1, first := now, last := now }
  match a.entries.find? (AlarmEntry.isOf k subject) with
  | some e =>
    (a.entries.map fun f => if f.isOf k subject then f.repeated now else f,
      { kind := k, subject := subject, priority := e.priority, count := min 255 (e.count + 1), notKept := false,
        displaced := none }, false)
  | none =>
    if a.entries.length < Config.maxAlarms then
      (a.entries ++ [fresh],
        { kind := k, subject := subject, priority := p, count := 1, notKept := false, displaced := none }, true)
    else match lowestOldest (a.entries.filter (a.displaceable p)) with
      | some d =>
        (a.entries.filter (fun e => !e.isOf d.kind d.subject) ++ [fresh],
          { kind := k, subject := subject, priority := p, count := 1, notKept := false,
            displaced := some (d.kind, d.subject) }, true)
      | none =>
        (a.entries,
          { kind := k, subject := subject, priority := p, count := 1, notKept := true, displaced := none }, false)

/-- A block raises an alarm (R170): the table changes, one ALARM report is queued, and the gate is told when the raise
created the first pending LINE_HOLD entry (R171). -/
def State.raise (s : State) (k : AlarmKind) (subject : Nat) : State :=
  let before := s.alarms.holdCount
  let r := s.alarms.raised k subject s.seconds
  let s := s.setAlarms { s.alarms with entries := r.1 }
  let s := s.queueReport (.alarm r.2.1)
  if r.2.2 && s.alarms.actionOf k == .lineHold && before == 0 then s.tellAlarmSource true else s

end Sys2Proof.Machine
end

