-- ==== Sys2Proof/Machine/Cost.lean ====
section
/-! DEFINITION. Charges (spec/04): rounding (R82), the four charges of a cut (R83 to R86), the charge of an area of stone
(R88), and adding a charge event to a job with its marks and alarms (R90 to R93). -/

namespace Sys2Proof.Machine

/-- The rounded quotient of R82: half-up at the single division. -/
def roundDiv (x d : Nat) : Nat := (x + d / 2) / d

/-- Material charge of an area at a basis (R83, R88). -/
def materialCharge (area basis : Nat) : Nat := roundDiv (area * basis) 1000000
/-- Tool charge of a travel and a depth (R84). -/
def toolCharge (travel depth rate : Nat) : Nat := roundDiv (travel * depth * rate) 1000000
/-- Water charge of the litres of a cut (R85). -/
def waterCharge (litres rate : Nat) : Nat := roundDiv (litres * rate) 1000
/-- Time charge of the elapsed seconds (R86). -/
def timeCharge (seconds rate : Nat) : Nat := roundDiv (seconds * rate) 3600

/-- Saturating addition (00, R90, R91). -/
def satAdd (limit a b : Nat) : Nat := min limit (a + b)
/-- Whether a saturating addition stops with less than its whole addition (R92). -/
def stops (limit a b : Nat) : Bool := limit < a + b

/-- One charge event: the four charges and the three piece counts (R81, R91). -/
structure Charge where
  material : Nat
  tool     : Nat
  water    : Nat
  time     : Nat
  pieces   : Nat
  flawed   : Nat
  outOfTol : Nat
  deriving DecidableEq, Repr

/-- The sum of the four charges (R90). -/
def Charge.sum (c : Charge) : Nat := c.material + c.tool + c.water + c.time
/-- A charge event of stone alone (R88). -/
def Charge.stone (m : Nat) : Charge := ⟨m, 0, 0, 0, 0, 0, 0⟩
/-- A makeup charge (R89). -/
def Charge.makeup (w : Nat) : Charge := ⟨0, 0, w, 0, 0, 0, 0⟩

/-- The accumulators and counts of a job after a charge event (R90 steps 1 to 3, R91). -/
def Job.added (j : Job) (c : Charge) : Job :=
  { j with
    material := satAdd Config.max32 j.material c.material
    tool := satAdd Config.max32 j.tool c.tool
    water := satAdd Config.max32 j.water c.water
    time := satAdd Config.max32 j.time c.time
    total := satAdd Config.max32 j.total c.sum
    pieces := satAdd Config.max16 j.pieces c.pieces
    flawed := satAdd Config.max16 j.flawed c.flawed
    outOfTol := satAdd Config.max16 j.outOfTol c.outOfTol }

/-- Whether some accumulator, the total or a count stops short of its whole addition (R92). -/
def Job.saturates (j : Job) (c : Charge) : Bool :=
  stops Config.max32 j.material c.material || stops Config.max32 j.tool c.tool || stops Config.max32 j.water c.water ||
    stops Config.max32 j.time c.time || stops Config.max32 j.total c.sum || stops Config.max16 j.pieces c.pieces ||
    stops Config.max16 j.flawed c.flawed || stops Config.max16 j.outOfTol c.outOfTol

/-- Whether the total has reached the quote (R78, R93). -/
def Job.atQuote (j : Job) : Bool := j.quote.any (· ≤ j.total)

/-- The job after a charge event, marks and all (R90 to R93). -/
def Job.charged (j : Job) (c : Charge) : Job :=
  let k := j.added c
  { k with overflow := j.overflow || j.saturates c, overQuote := j.overQuote || k.atQuote }

/-- A charge event is added to a job (R90): sums, counts, OVERFLOW with COST_OVERFLOW, then OVER_QUOTE with
JOB_OVER_QUOTE, each alarm raised when its mark was cleared before (R92, R93). -/
def State.addCharge (s : State) (n : Nat) (c : Charge) : State :=
  let j := s.job n
  let k := j.charged c
  let s := s.putJob k
  let s := if k.overflow && !j.overflow then s.raise .costOverflow n else s
  if k.overQuote && !j.overQuote then s.raise .jobOverQuote n else s

/-- A scrap, discard or eviction charge (R88). -/
def State.chargeStone (s : State) (n area basis : Nat) : State := s.addCharge n (.stone (materialCharge area basis))

/-- `n` makeup charges, one after another, of the fresh rate to job 0 (R89, R128). -/
def State.chargeMakeup : Nat → State → State
  | 0, s => s
  | n + 1, s => State.chargeMakeup n (s.addCharge 0 (.makeup s.cost.freshRate))

end Sys2Proof.Machine
end

