-- ==== Sys2Proof/Machine/Plans.lean ====
section
/-! DEFINITION. The plan table's operations on the state: the kerf in use (R23), running the projection (R28), flaws on
issued steps (R29), the step changes of the cutter controller (R30), and applying a completion or an accepted step
(R31 to R35, R40). -/

namespace Sys2Proof.Machine

/-- The kerf in use for a slab (R23): its cutter's while it is ON_BED, the plan's load-time kerf otherwise. -/
def State.kerfInUse (s : State) (sl : Slab) (p : Plan) : Nat :=
  match sl.state.onCutter.bind s.cutter? with
  | some c => c.settings.kerf
  | none => p.loadKerf

/-- Runs the projection for a slab's plan, when it has one (R28). -/
def State.project (s : State) (slab : Nat) : State :=
  match s.slab? slab, s.plan? slab with
  | some sl, some p => s.putPlan { p with steps := projected sl (s.kerfInUse sl p) p.steps }
  | _, _ => s

/-- A step change of the cutter controller or of an item: the step is rewritten, and the plan is left to the caller. -/
def State.changeStep (s : State) (slab number : Nat) (f : Step → Step) : State :=
  match s.plan? slab with
  | none => s
  | some p => match p.step? number with
    | none => s
    | some st => s.putPlan (p.putStep (f st))

/-- Issue (R30): the step moves to ISSUED; the projection does not run. -/
def State.issueStep (s : State) (slab number : Nat) : State :=
  s.changeStep slab number fun st => { st with state := .issued }
/-- Give back (R30): the step returns to its open state and the projection runs. -/
def State.giveBack (s : State) (slab number : Nat) : State :=
  (s.changeStep slab number fun st => { st with state := st.openState }).project slab
/-- Unresolve (R30): the step becomes UNRESOLVED and the projection runs. -/
def State.unresolve (s : State) (slab number : Nat) : State :=
  (s.changeStep slab number fun st => { st with state := .unresolved }).project slab

/-- Whether a zone of the new flaw list, equal to none of the old, overlaps the planned geometry of an ISSUED CROSS or
SERIES step (R29). -/
def flawOnIssued (old new : List Zone) (steps : List Step) : Bool :=
  steps.any fun st =>
    st.state == .issued && st.kind != .rip &&
      new.any fun z => !old.contains z && (st.planned.getD []).any fun r => r.overlaps z

/-- The stock table hands over a slab whose flaw list has changed (R29). -/
def State.flawsChanged (s : State) (slab : Nat) (old new : List Zone) : State :=
  let s := s.project slab
  if ((s.plan? slab).map fun p => flawOnIssued old new p.steps).getD false then s.raise .flawOnIssued slab else s

/-- What applying a completion hands on (R35): the area of stone taken, the applied pieces, and the counts for the job. -/
structure Handover where
  area     : Nat
  applied  : List Applied
  pieces   : Nat
  flawed   : Nat
  outOfTol : Nat
  deriving DecidableEq, Repr

/-- The hand-over of a completion that applies nothing. -/
def Handover.nothing : Handover := ⟨0, [], 0, 0, 0⟩

/-- The hand-over to the cost unit (R35): for a RIP the three counts are 0. -/
def handover (st : Step) (width length : Nat) (ps : List Applied) : Handover :=
  let isRip := st.kind == .rip
  { area := takenArea st.kind width length ps
    applied := ps
    pieces := if isRip then 0 else ps.length
    flawed := if isRip then 0 else (ps.filter fun p => p.stored.flawed).length
    outOfTol := if isRip then 0 else (ps.filter fun p => p.stored.tolerance).length }

/-- Applies a completion to a step (R31 to R35): the slab's geometry, the step's stored lengths, marks and state, then
the projection. Answers the state and what is handed to the cost unit. -/
def State.applyCompletion (s : State) (slab number : Nat) (e : CutEnd) (pieces : Nat) (measured : List Nat) :
    State × Handover :=
  match s.slab? slab, s.plan? slab with
  | some sl, some p =>
    match p.step? number with
    | some st =>
      let n := st.toApply e pieces
      let (g, ps) := applyPieces sl.length (s.kerfInUse sl p) s.plans.tolerance sl.zones st n measured sl.geom
      let width := ((sl.geom.strip? st.strip).map Strip.width).getD 0
      let s := s.putSlab { sl with geom := g }
      let s := s.putPlan (p.putStep (st.afterApplied e ps))
      (s.project slab, handover st width sl.length ps)
    | none => (s, .nothing)
  | _, _ => (s, .nothing)

/-- The basis of a slab, 0 where it has none; a slab ON_BED always has one (R83). -/
def State.basisOf (s : State) (slab : Nat) : Nat := ((s.slab? slab).bind Slab.basis).getD 0

/-- The steps of a plan that JOB CLOSE looks at (R79), that PLAN LOAD and PLAN CLEAR may not discard (R36, R37). -/
def StepState.started : StepState → Bool
  | .issued | .partly | .done | .unresolved => true
  | .pending | .flagged | .blocked | .skipped => false

end Sys2Proof.Machine
end

