-- ==== Sys2Proof/Machine/Records.lean ====
section
/-! DEFINITION. The life of a cut record (spec/03): its end in the order of R57, the command queue it uses (R136), the
acknowledgements (R62, R64), and the handlings that end records: fault sweep, unreachability, echo mismatch, timeout,
wear (R47, R65, R69 to R71). The re-evaluation of the waiting list that R57 step 7 orders is the caller's (Gate.lean):
each handling here ends its records without it. -/

namespace Sys2Proof.Machine

/-! ### The line command queue (R136) -/

/-- A START or ABORT joins the queue's tail, unless the queue is full (R136). The flag says whether it joined. -/
def State.enqueue (s : State) (c : Command) : State × Bool :=
  if s.line.queue.length < Config.maxCommands then
    (s.setLine { s.line with queue := s.line.queue ++ [c] }, true)
  else (s, false)

/-- The START of a record not yet sent. -/
def Command.isUnsentStart (onCutter id : Nat) (c : Command) : Bool :=
  c.kind == .start id && c.onCutter == onCutter && c.attempts == 0
/-- An ABORT of a cutter not yet sent. -/
def Command.isUnsentAbort (onCutter : Nat) (c : Command) : Bool :=
  c.kind == .abort && c.onCutter == onCutter && c.attempts == 0

/-- The START of a record of a cutter whose record has ended belongs to no record any more (R57, R62). -/
def Command.orphaned (onCutter id : Nat) (c : Command) : Command :=
  if c.kind = .start id ∧ c.onCutter = onCutter then { c with orphan := true } else c

/-- Withdraws the unsent commands of a record that has ended (R57, R136): its START; and the ABORT of its cutter when the
cutter has no live record left with its abort-requested flag set. A START of it with an attempt made stays, and goes
through its attempts as no record's. -/
def State.withdraw (s : State) (onCutter id : Nat) : State :=
  let flagged := s.cutting.records.any fun r => r.onCutter == onCutter && r.abortFlag
  s.setLine { s.line with
    queue := (s.line.queue.filter fun c =>
      !(c.isUnsentStart onCutter id || (!flagged && c.isUnsentAbort onCutter))).map (Command.orphaned onCutter id) }

/-- Queues an ABORT for a cutter (R73, R136): an earlier ABORT with no attempt made serves for both; with the queue full
it fails at once and leaves the flags (R74). -/
def State.enqueueAbort (s : State) (onCutter : Nat) : State :=
  if s.line.queue.any (Command.isUnsentAbort onCutter) then s
  else (s.enqueue { kind := .abort, onCutter := onCutter, attempts := 0, body := be1 onCutter, orphan := false }).1

/-! ### The end of a record (R57) -/

/-- An echo joins the tail of an uncertain echo list; with a fifth entry the oldest leaves (R58). -/
def joinUncertain (l : List Uncertain) (u : Uncertain) : List Uncertain :=
  let l' := l ++ [u]
  l'.drop (l'.length - Config.maxUncertain)

/-- A cutter whose slots are empty and which is WORKING becomes LOADED (R57 step 6). -/
def Cutter.settled (c : Cutter) : Cutter :=
  if c.state = .working ∧ c.slots = [] then { c with state := .loaded } else c

/-- The report of a record that ends without a completion taken (R57 step 4): no pieces, no lengths, no charges. -/
def CutRecord.emptyReport (r : CutRecord) (e : Ending) : CutReport :=
  { cutId := r.id, onCutter := r.onCutter, slab := r.slab, number := r.number, job := r.job, ending := e, pieces := 0,
    stored := [], abortFlag := r.abortFlag, late := false, material := 0, tool := 0, water := 0, time := 0 }

/-- Steps 2 to 6 of a record's end (R57): its echo joins the uncertain list when `uncertain`; it leaves slots, waiting
list and pool; its unsent commands are withdrawn; its CUT report is queued; the cutter becomes LOADED when it was
WORKING and its slots are empty. -/
def State.finishRecord (s : State) (r : CutRecord) (uncertain : Option Ending) (report : CutReport) : State :=
  let s := match s.cutter? r.onCutter with
    | none => s
    | some c => s.putCutter { c with
        uncertain := match uncertain with
          | none => c.uncertain
          | some e => joinUncertain c.uncertain { echo := r.echo, job := r.job, ending := e }
        slots := c.slots.filter (· != r.id) }
  let s := s.setGate { s.gate with waiting := s.gate.waiting.filter (· != r.id) }
  let s := s.setCutting { s.cutting with records := remove CutRecord.id r.id s.cutting.records }
  let s := s.withdraw r.onCutter r.id
  let s := s.queueReport (.cut report)
  match s.cutter? r.onCutter with
  | none => s
  | some c => s.putCutter c.settled

/-- A live record ends other than by a completion (R56, R57): its step is given back or unresolved, its echo joins the
uncertain list when it ended from SENT or later, and its report carries no charges. -/
def State.endRecord (s : State) (r : CutRecord) (e : Ending) (unresolve : Bool) : State :=
  let s := if unresolve then s.unresolve r.slab r.number else s.giveBack r.slab r.number
  s.finishRecord r (if r.state.sentOrLater then some e else none) (r.emptyReport e)

/-- The end that the fault sweep, an unreachability, an echo mismatch and a FLOOR RESTART share (R56): give back from
WAITING, unresolve from SENT or later. -/
def State.endUncertainly (s : State) (r : CutRecord) (e : Ending) : State := s.endRecord r e r.state.sentOrLater

/-- Ends the records with the ids given, in order, by the shared end (oldest first in slot order). -/
def State.endAll (s : State) (ids : List Nat) (e : Ending) : State :=
  ids.foldl (fun s id => match s.record? id with
    | none => s
    | some r => s.endUncertainly r e) s

/-- The slots of a cutter. -/
def State.slotsOf (s : State) (n : Nat) : List Nat := ((s.cutter? n).map Cutter.slots).getD []

/-- Rewrites a cutter's record, if it is defined. -/
def State.changeCutter (s : State) (n : Nat) (f : Cutter → Cutter) : State :=
  match s.cutter? n with
  | none => s
  | some c => s.putCutter (f c)

/-- The cutter goes FAULTED, whatever its state (R45). -/
def State.faultCutter (s : State) (n : Nat) : State := s.changeCutter n fun c => { c with state := .faulted }

/-- The fault sweep (R70): every live record of the cutter ends FAILED(CUTTER_FAULT), oldest first. -/
def State.faultSweep (s : State) (n : Nat) : State := s.endAll (s.slotsOf n) (.failed .cutterFault)

/-! ### Acknowledgements (R62, R64) -/

/-- The state a record takes when it goes to work (R62, R67): HELD under the hold mark, EXECUTING otherwise. -/
def workState (holdMark : Bool) : RecordState := if holdMark then .held else .executing

/-- The cutter acknowledges the START of a record (R62). A record that is no longer SENT keeps its state; a START whose
record has ended does not come here (`State.commandAcked`). -/
def State.startAcked (s : State) (n id : Nat) : State :=
  match s.cutter? n, s.record? id with
  | some c, some r =>
    if r.onCutter = n ∧ r.state = .sent then
      let behind := (s.liveOf c).any fun q => q.id != id && q.state.atWork
      s.putRecord { r with state := if behind then .queued else workState c.holdMark, timer := 0 }
    else s
  | _, _ => s

/-- Rewrites the live records of a cutter. -/
def State.mapRecords (s : State) (n : Nat) (f : CutRecord → CutRecord) : State :=
  s.setCutting { s.cutting with records := s.cutting.records.map fun r => if r.onCutter == n then f r else r }

/-- The cutter acknowledges HOLD (R64): its hold mark is set and its EXECUTING record becomes HELD. -/
def State.holdAcked (s : State) (n : Nat) : State :=
  match s.cutter? n with
  | none => s
  | some c =>
    if c.holdMark then s
    else (s.putCutter { c with holdMark := true }).mapRecords n fun r =>
      if r.state = .executing then { r with state := .held } else r

/-- The cutter acknowledges RESUME (R64): its hold mark is cleared and its HELD record becomes EXECUTING. -/
def State.resumeAcked (s : State) (n : Nat) : State :=
  match s.cutter? n with
  | none => s
  | some c =>
    if c.holdMark then (s.putCutter { c with holdMark := false }).mapRecords n fun r =>
      if r.state = .held then { r with state := .executing } else r
    else s

/-- The cutter acknowledges the broadcast. -/
def State.broadcastAcked (s : State) (k : BroadcastKind) (n : Nat) : State :=
  match k with
  | .hold => s.holdAcked n
  | .resume => s.resumeAcked n

/-! ### Handlings that end records -/

/-- A START reported failed after its retries (R63): its SENT record ends FAILED(UNREACHABLE), the step is given back.
A record that has ended in the meantime is not found: no other has taken its id, because a CUT takes the standing reports
first (`State.settle`), and a START whose record had ended before is not reported (`State.commandFailed`). The flag says
whether a record ended. -/
def State.startFailed (s : State) (n id : Nat) : State × Bool :=
  match s.record? id with
  | some r =>
    if r.onCutter = n ∧ r.state = .sent then (s.endRecord r (.failed .unreachable) false, true) else (s, false)
  | none => (s, false)

/-- A cutter reported unreachable (R71). The flag says whether a record ended. -/
def State.cutterLost (s : State) (n : Nat) : State × Bool :=
  match s.cutter? n with
  | none => (s, false)
  | some c =>
    let s := s.putCutter { c with state := .faulted, holdMark := false }
    (s.endAll c.slots (.failed .unreachable), !c.slots.isEmpty)

/-- Whether the timer of an EXECUTING record has reached its cutter's cut time limit (R65). -/
def State.timedOut (s : State) (r : CutRecord) : Bool :=
  r.state == .executing && (s.cutter? r.onCutter).any fun c => c.settings.limit ≤ r.timer

/-- A record times out (R65): it ends TIMED_OUT, the cutter goes FAULTED, CUT_TIMEOUT is raised, the sweep runs. -/
def State.timeOut (s : State) (r : CutRecord) : State :=
  let s := s.endRecord r .timedOut true
  let s := s.faultCutter r.onCutter
  let s := s.raise .cutTimeout r.onCutter
  s.faultSweep r.onCutter

/-- A mismatched completion (R69): ECHO_MISMATCH, the cutter FAULTED, every live record ended. -/
def State.mismatch (s : State) (c : Cutter) : State :=
  let s := s.raise .echoMismatch c.number
  let s := s.faultCutter c.number
  s.endAll c.slots (.failed .echoMismatch)

/-- The tool wears (R46): the remaining life falls by the area, not below 0; crossings raise TOOL_LOW and TOOL_WORN.
A reduction from GOOD to 0 raises both, also where no remaining life of the tool is LOW (log entry 28). -/
def State.wearTool (s : State) (n area : Nat) : State :=
  match s.cutter? n with
  | none => s
  | some c =>
    let c' := { c with life := c.life - area }
    let s := s.putCutter c'
    let s := if c.toolState = .good ∧ c'.toolState ≠ .good then s.raise .toolLow n else s
    if c.toolState ≠ .worn ∧ c'.toolState = .worn then s.raise .toolWorn n else s

/-- Ends the WAITING records of a cutter with their steps given back (R47, R73), in slot order, oldest first (log entry
33). -/
def State.endWaiting (s : State) (n : Nat) (e : Ending) : State :=
  (s.slotsOf n).foldl (fun s id => match s.record? id with
    | none => s
    | some r => if r.state = .waiting then s.endRecord r e false else s) s

end Sys2Proof.Machine
end

