-- ==== Sys2Proof/Machine/Gate.lean ====
section
/-! DEFINITION. The water gate (spec/06): the start gate with its predicted level (R122, R123), forwarding (R61), the
waiting list and its re-evaluation (R124, R125), the critical latch (R115, R116), samples (R121) and makeup accounting
(R127, R128). -/

namespace Sys2Proof.Machine

/-! ### The start gate (R122, R123) -/

/-- Whether a cutter has a record that is EXECUTING, HELD or QUEUED (R123). -/
def State.draws (s : State) (c : Cutter) : Bool :=
  s.cutting.records.any fun r => r.onCutter == c.number && (r.state.atWork || r.state == .queued)

/-- D of R123: the draw rates of the BLADE cutters with a record at the cutter, each once, plus the candidate's cutter. -/
def State.drawFor (s : State) (candidate : Nat) : Nat :=
  ((s.cutting.cutters.filter fun c =>
      (c.kind == .blade && s.draws c) || c.number == candidate).map fun c => c.settings.draw).sum

/-- R of R123: the value of the return-flow role, 0 where it has none. -/
def State.returnFlow (s : State) : Nat := (s.water.valueOf s.gate.returnFlow).getD 0

/-- The drop of R123, in whole litres rounded up. -/
def dropOf (d r t : Nat) : Nat := ((d - r) * t + 599) / 600

/-- The predicted level of R123 at a level value. -/
def State.predictedLevel (s : State) (r : CutRecord) (level : Nat) : Nat :=
  level - dropOf (s.drawFor r.onCutter) s.returnFlow r.expected

/-- Whether a WAITING record passes the start gate now (R122). -/
def State.startGate (s : State) (r : CutRecord) : Bool :=
  !s.gate.lineHold &&
    match r.cutterKind with
    | .jet => true
    | .blade =>
      s.water.fresh s.gate.level && s.water.fresh s.gate.turbidity &&
        (s.water.valueOf s.gate.turbidity).any (· ≤ s.gate.marks.turbLimit) &&
        (s.water.valueOf s.gate.level).any fun l => s.gate.marks.low ≤ s.predictedLevel r l

/-- Forwards a record (R61): it moves to SENT and its START joins the command queue; with the queue full it is reported
failed at once and ends by R63 (R136). -/
def State.forward (s : State) (r : CutRecord) : State :=
  let s := s.putRecord { r with state := .sent }
  match s.enqueue { kind := .start r.id, onCutter := r.onCutter, attempts := 0, body := startBody r, orphan := false } with
  | (s, true) => s
  | (s, false) => (s.startFailed r.onCutter r.id).1

/-- The walk of a re-evaluation from the head of the waiting list (R125); `n` bounds its length. A record that ends on the
way begins no walk of its own. -/
def State.walk : Nat → State → State
  | 0, s => s
  | n + 1, s =>
    match s.gate.waiting with
    | [] => s
    | id :: rest =>
      match s.record? id with
      | none => s
      | some r =>
        if s.startGate r then
          State.walk n ((s.setGate { s.gate with waiting := rest }).forward r)
        else s

/-- Re-evaluates the waiting list (R125). -/
def State.reevaluate (s : State) : State := s.walk s.gate.waiting.length

/-- Re-evaluates the waiting list once when `ended` says that a record ended in the handling (R57 step 7). -/
def State.reevaluateIf (s : State) (ended : Bool) : State := if ended then s.reevaluate else s

/-- A newly accepted record at the gate (R124): with the list empty it is evaluated, and forwarded when it passes; else
it joins the tail. The flag says whether it waits. -/
def State.gateNew (s : State) (r : CutRecord) : State × Bool :=
  if s.gate.waiting = [] ∧ s.startGate r then (s.forward r, false)
  else (s.setGate { s.gate with waiting := s.gate.waiting ++ [r.id] }, true)

/-- Line hold recomputed, and the waiting list re-evaluated when it goes from ON to OFF (R117). -/
def State.recomputeHoldAndWalk (s : State) : State :=
  let s' := s.recomputeHold
  if s.gate.lineHold && !s'.gate.lineHold then s'.reevaluate else s'

/-! ### The critical latch (R115, R116) -/

/-- Sets the latch, raising WATER_CRITICAL when it was cleared: its subject is the level channel when the level part
holds, and otherwise the turbidity channel (R115). -/
def State.setLatch (s : State) : State :=
  if s.gate.latch then s
  else
    let subject := if levelCritical s.gate s.water then s.gate.level else s.gate.turbidity
    (s.setGate { s.gate with latch := true }).raise .waterCritical (subject.getD 0)

/-- Clears the latch when it is set and the clear condition holds (R116). -/
def State.clearLatch (s : State) : State :=
  if s.gate.latch && latchClears s.gate s.water then s.setGate { s.gate with latch := false } else s

/-- One evaluation of the latch: `test` is the set test of the event (R116); line hold is recomputed after it (R117). -/
def State.evaluateLatch (s : State) (test : Bool) : State :=
  (if test then s.setLatch else s.clearLatch).recomputeHold

/-- The item rule of R116, used by WATER ROLES and WATER MARKS, then line hold, then one re-evaluation (R113, R114). -/
def State.waterItem (s : State) : State :=
  (s.evaluateLatch (levelCritical s.gate s.water || turbidityCritical s.gate s.water)).reevaluate

/-! ### Makeup water (R127, R128) -/

/-- The multiples of 1,000 L that the count passes when `litres` are added; reaching 0 by wrapping counts (R128). -/
def multiplesPassed (count litres : Nat) : Nat :=
  if count + litres ≤ Config.max32 then (count + litres) / 1000 - count / 1000
  else Config.max32 / 1000 - count / 1000 + 1 + (count + litres - (Config.max32 + 1)) / 1000

/-- A good sample of the makeup-flow role (R127): the first sets the reference time; a later one adds its rate over the
bounded interval, carries whole litres into the count and hands over the makeup charges (R128). -/
def State.makeupSample (s : State) (value time : Nat) : State :=
  match s.gate.makeupRef with
  | none => s.setGate { s.gate with makeupRef := some time }
  | some t =>
    let units := s.gate.makeupRem + value * min (secondsSince time t) s.line.staleness
    let litres := units / 600
    let passed := multiplesPassed s.gate.makeupCount litres
    let s := s.setGate { s.gate with
      makeupRef := some time
      makeupRem := units % 600
      makeupCount := (s.gate.makeupCount + litres) % (Config.max32 + 1) }
    s.chargeMakeup passed

/-! ### Samples (R121) -/

/-- The water monitor tells the gate of a good sample (R121), by the role the channel holds. -/
def State.gateSample (s : State) (n value time : Nat) : State :=
  match s.gate.roleOf n with
  | some 1 => (s.evaluateLatch (decide (value < s.gate.marks.critical))).reevaluate
  | some 2 => (s.evaluateLatch (decide (s.gate.marks.turbCritical < value))).reevaluate
  | some 3 => s.reevaluate
  | some 4 => s.makeupSample value time
  | _ => s

end Sys2Proof.Machine
end

