-- ==== Sys2Proof/Machine/Completion.lean ====
section
/-! DEFINITION. Completions (spec/03): classed by their echo (R66), taken for a record (R67), duplicate or late (R68), or
mismatched (R69). Each handling ends with the one re-evaluation of the waiting list that R57 orders. -/

namespace Sys2Proof.Machine

/-- What a COMPLETION answer carries (03, Completions; 10, COMPLETION). -/
structure Completion where
  echo    : Echo
  ending  : CutEnd
  pieces  : Nat
  travel  : Nat
  elapsed : Nat
  litres  : Nat
  lengths : List Nat
  deriving DecidableEq, Repr

/-- The end a completion reports, by its number (10, COMPLETION): 1 DONE, 2 STOPPED, 3 FAULT. -/
def cutEndOf (n : Nat) : CutEnd := if n = 1 then .done else if n = 2 then .stopped else .fault

/-- The end of the record a completion is taken for (R67 step 2), and the end a late report carries (R179). -/
def CutEnd.ending : CutEnd → Ending
  | .done => .done
  | .stopped => .stopped
  | .fault => .failed .cutterFault

/-- The water rate of a cutter's kind (R44, R85). -/
def State.waterRate (s : State) (k : CutterKind) : Nat :=
  match k with
  | .blade => s.cost.loopRate
  | .jet => s.cost.freshRate

/-- The charge event of a taken completion (R81, R83 to R86): its quantities priced at the rates as they stand. -/
def State.cutCharge (s : State) (c : Cutter) (r : CutRecord) (m : Completion) (h : Handover) (depth : Nat) : Charge :=
  { material := materialCharge h.area (s.basisOf r.slab)
    tool := toolCharge (min m.travel r.travel) depth c.settings.toolRate
    water := waterCharge m.litres (s.waterRate c.kind)
    time := timeCharge m.elapsed c.settings.machineRate
    pieces := h.pieces
    flawed := h.flawed
    outOfTol := h.outOfTol }

/-- The CUT report of a taken completion (R67 step 5). -/
def CutRecord.takenReport (r : CutRecord) (e : CutEnd) (h : Handover) (c : Charge) : CutReport :=
  { cutId := r.id, onCutter := r.onCutter, slab := r.slab, number := r.number, job := r.job, ending := e.ending,
    pieces := h.applied.length, stored := h.applied.map Applied.stored, abortFlag := r.abortFlag, late := false,
    material := c.material, tool := c.tool, water := c.water, time := c.time }

/-- The cutter's QUEUED record goes to work (R67 step 8). -/
def State.startQueued (s : State) (n : Nat) : State :=
  match s.cutter? n with
  | none => s
  | some c => s.mapRecords n fun q =>
      if q.state = .queued then { q with state := workState c.holdMark, timer := 0 } else q

/-- A completion is taken for a record (R67), steps 1 to 8 in order. -/
def State.takeCompletion (s : State) (c : Cutter) (r : CutRecord) (m : Completion) : State :=
  let depth := ((s.slab? r.slab).map Slab.thickness).getD 0 + c.settings.overcut
  let (s, h) := s.applyCompletion r.slab r.number m.ending (min m.pieces r.pieces.length) m.lengths
  let charge := s.cutCharge c r m h depth
  let s := s.addCharge r.job charge
  let s := s.changeCutter r.onCutter fun k => { k with lastTaken := some m.echo }
  let s := s.finishRecord r none (r.takenReport m.ending h charge)
  let s := s.wearTool r.onCutter (min m.travel r.travel * depth)
  let worn := (s.cutter? r.onCutter).any fun k => k.toolState == .worn
  let s := if worn && c.toolState != .worn then s.endWaiting r.onCutter (.failed .toolWorn) else s
  if m.ending = .fault then
    let s := s.faultCutter r.onCutter
    let s := s.raise .cutterFault r.onCutter
    s.faultSweep r.onCutter
  else s.startQueued r.onCutter

/-- The marks of a late report's lengths are not known to the part: free values, drawn in order (log entry 4). -/
def freeLengths (count : Nat) : List Nat → List StoredLength
  | [] => []
  | l :: ls =>
    { length := l, flawed := Config.freeMark count, tolerance := Config.freeMark (count + 1) } ::
      freeLengths (count + 2) ls

/-- A late completion (R68): its entry leaves the list, LATE_COMPLETION is raised, and a CUT report with the late mark
carries what the cutter reported, with charges of 0. Of two entries that hold the same echo the older leaves (log
entry 29). -/
def State.lateCompletion (s : State) (c : Cutter) (u : Uncertain) (m : Completion) : State :=
  let s := s.putCutter { c with uncertain := c.uncertain.erase u }
  let s := s.raise .lateCompletion c.number
  let k := s.freeCount
  let report : CutReport :=
    { cutId := u.echo.cutId, onCutter := c.number, slab := u.echo.slab, number := u.echo.number, job := u.job,
      ending := m.ending.ending, pieces := m.pieces, stored := freeLengths (k + 1) m.lengths,
      abortFlag := Config.freeMark k, late := true, material := 0, tool := 0, water := 0, time := 0 }
  (s.queueReport (.cut report)).setFreeCount (k + 1 + 2 * m.lengths.length)

/-- What a completion from a cutter's station is, by its echo (R66). -/
inductive EchoClass where
  | taken (r : CutRecord)
  | duplicate
  | late (u : Uncertain)
  | mismatched
  deriving DecidableEq, Repr

/-- Classes an echo against a cutter's state; the first case that holds decides (R66). When the last resort of R55 has put
the same echo twice on the uncertain echo list, a late completion is of the older entry (R68 does not say of which; log
entry 29). -/
def State.classify (s : State) (c : Cutter) (e : Echo) : EchoClass :=
  let live := s.liveOf c
  match live.find? fun r => r.state.atWork && r.echo == e with
  | some r => .taken r
  | none =>
    match live.find? fun r => r.state == .sent && r.echo == e && !live.any fun q => q.state.atWork with
    | some r => .taken { r with state := .executing }
    | none =>
      if c.lastTaken = some e then .duplicate
      else match c.uncertain.find? fun u => u.echo == e with
        | some u => .late u
        | none => .mismatched

/-- A COMPLETION answer from the station bound to a cutter (R66 to R69); the gate is told once, after the handling, when a
record ended (R57). -/
def State.completion (s : State) (c : Cutter) (m : Completion) : State :=
  match s.classify c m.echo with
  | .taken r => (s.takeCompletion c r m).reevaluate
  | .duplicate => s
  | .late u => s.lateCompletion c u m
  | .mismatched => (s.mismatch c).reevaluateIf (!c.slots.isEmpty)

end Sys2Proof.Machine
end

