-- ==== Sys2Proof/Machine/Scan.lean ====
section
/-! DEFINITION. Channels and the scan engine (spec/05): the compare state (R98), staleness (R100), good and invalid values
(R108, R109), the end of a scan poll and the engine's moving on (R105 to R107). -/

namespace Sys2Proof.Machine

/-! ### Channels -/

/-- A channel takes new limits or a new value and its compare state is recomputed; CHANNEL_LIMIT is raised when it enters
BELOW or ABOVE (R98). -/
def State.recompare (s : State) (ch : Channel) : State :=
  let c := compareOf ch.low ch.high ch.reading
  let s := s.putChannel { ch with compare := c }
  if entersOutside ch.compare c then s.raise .channelLimit ch.number else s

/-- A channel enters stale (R100): its mark is set, and CHANNEL_STALE is raised when it holds a water role. -/
def State.enterStale (s : State) (ch : Channel) : State :=
  let s := s.putChannel { ch with stale := true }
  if (s.gate.roleOf ch.number).isSome then s.raise .channelStale ch.number else s

/-- Evaluates a channel for staleness (R100) and takes the outcome at once. -/
def State.evaluateStale (s : State) (ch : Channel) : State :=
  let now := ch.staleAt s.seconds s.line.staleness
  if now && !ch.stale then s.enterStale ch else s.putChannel { ch with stale := now }

/-- A good value for a channel (R108): stored with its sample time, sensor fault cleared, fresh, compared; then the gate
is told of the sample. -/
def State.goodValue (s : State) (ch : Channel) (value : Nat) : State :=
  let ch := { ch with reading := some ⟨value, s.seconds⟩, fault := false, stale := false }
  let s := s.recompare ch
  s.gateSample ch.number value s.seconds

/-- An invalid value for a channel (R109): the sensor fault mark is set and staleness is evaluated; the gate is not told. -/
def State.invalidValue (s : State) (ch : Channel) : State := s.evaluateStale { ch with fault := true }

/-! ### The scan engine -/

/-- The channel whose poll the engine is at: the single channel, or the channel at the position in the scan list. -/
def Engine.current (e : Engine) : Option Nat :=
  match e.mode with
  | none => none
  | some .single => e.single
  | some .sweep | some .continuous => e.position.bind fun p => e.scanList[p - 1]?

/-- The engine becomes IDLE at the end of its work. -/
def Engine.finished (e : Engine) : Engine := { e with mode := none, single := none, position := none, due := false }

/-- The engine stopped by SCAN STOP or FLOOR RESTART (R106, R110): the last pass end becomes absent as well. -/
def Engine.stopped (e : Engine) : Engine := { e.finished with lastPassEnd := none }

/-- The engine moves on after a poll of its current run has ended (R105). -/
def State.engineAdvance (s : State) : State :=
  let e := s.water.engine
  let p := e.position.getD 0
  match e.mode with
  | none => s
  | some .single => s.setEngine e.finished
  | some .sweep =>
    if p < e.scanList.length then s.setEngine { e with position := some (p + 1), due := true }
    else (s.setEngine e.finished).queueReport (.water .sweepFinished)
  | some .continuous =>
    if p < e.scanList.length then s.setEngine { e with position := some (p + 1), due := true }
    else s.setEngine { e with position := some 1, lastPassEnd := some s.seconds, due := false }

/-- What came back for a scan poll is dealt with for its channel, when the poll is of the current run (R106, R107). -/
def State.dealWith (s : State) (number polledIndex : Nat) (o : PollOutcome) : State :=
  match o, s.channel? number with
  | .value index valid v, some ch =>
    if s.water.engine.flightIsCurrent && index == polledIndex then
      if valid && decide (v ≤ ch.kind.maxValue) then s.goodValue ch v else s.invalidValue ch
    else s
  | _, _ => s

/-- The transaction of a scan poll has ended (R105, R106): the poll in flight becomes absent, and a poll of the current run
moves the engine on. -/
def State.scanPollOver (s : State) : State :=
  let current := s.water.engine.flightIsCurrent
  let s := s.setEngine { s.water.engine with inFlight := none }
  if current then s.engineAdvance else s

/-- A pass of CONTINUOUS that has become due (R105): the counter has reached the last pass end plus the pass interval
while the engine rests between passes. -/
def State.passDue (s : State) : Bool :=
  let e := s.water.engine
  e.mode == some .continuous && !e.due && e.position == some 1 && !e.flightIsCurrent &&
    e.lastPassEnd.any fun t => reached s.seconds (secondsAfter t s.line.passInterval)

/-- Makes the first poll of a due pass due (R105). -/
def State.startDuePass (s : State) : State :=
  if s.passDue then s.setEngine { s.water.engine with due := true } else s

/-! ### A second (R65, R100) -/

/-- The timers of EXECUTING records after one more second (R65). -/
def CutRecord.tick (r : CutRecord) : CutRecord := if r.state = .executing then { r with timer := r.timer + 1 } else r

/-- A channel after the evaluation of a second, where the evaluation clears its mark or leaves it (R100). -/
def Channel.freshened (ch : Channel) (now limit : Nat) : Channel :=
  if ch.staleAt now limit then ch else { ch with stale := false }

/-- The channels that the evaluation of a second finds past the limit with the mark cleared (R100). -/
def State.newlyStale (s : State) : List Nat :=
  (s.water.channels.filter fun ch => !ch.stale && ch.staleAt s.seconds s.line.staleness).map Channel.number

/-- The time base counts one second (R65, R100). -/
def State.tickSecond (s : State) : State :=
  let s := s.setSeconds (nextSecond s.seconds)
  let s := s.setCutting { s.cutting with records := s.cutting.records.map CutRecord.tick }
  s.setWater { s.water with
    channels := s.water.channels.map fun ch => ch.freshened s.seconds s.line.staleness
    staleDue := s.newlyStale }

end Sys2Proof.Machine
end

