-- ==== Sys2Proof/Machine/Line.lean ====
section
/-! DEFINITION. The line port (spec/07): station outcomes (R133), the arbiter (R134, R135), broadcasts with their slots and
addressed retries (R141 to R143), command attempts (R137, R138), and the end of each kind of transaction (R132, R139). -/

namespace Sys2Proof.Machine

/-! ### Station outcomes (R133) -/

/-- A good reply of any kind from an address (R133): failure count 0, link UP. An empty place takes nothing. -/
def State.creditStation (s : State) (address : Nat) : State :=
  match s.station? address with
  | none => s
  | some st => s.putStation { st with failures := 0, link := .up }

/-- The line port reports to the cutter controller; the report is taken as a step of its own (R133; log entry 3). -/
def State.report (s : State) (r : LineReport) : State := s.setLine { s.line with reports := s.line.reports ++ [r] }

/-- A station becomes UNREACHABLE (R133, R143) and STATION_UNREACHABLE is raised. -/
def State.loseStation (s : State) (st : Station) : State :=
  (s.putStation { st with link := .unreachable, failures := Config.unreachableAfter }).raise .stationUnreachable st.address

/-- A station becomes UNREACHABLE by its third failed transaction (R133): the cutter bound to it, when it is a CUTTER
station, is reported. -/
def State.stationLost (s : State) (st : Station) : State :=
  let s := s.loseStation st
  match s.cutterAt st.address with
  | some c => if st.kind = .cutter then s.report (.unreachable c.number) else s
  | none => s

/-- A failed transaction to an address (R133). -/
def State.failStation (s : State) (address : Nat) : State :=
  match s.station? address with
  | none => s
  | some st =>
    let n := min Config.unreachableAfter (st.failures + 1)
    if n = Config.unreachableAfter ∧ st.link ≠ .unreachable then s.stationLost st
    else s.putStation { st with failures := n }

/-! ### Handing out the line -/

/-- The part begins to send a frame on the floor line for a transaction. -/
def State.openTx (s : State) (kind : TxKind) (address : Nat) (bytes : List Byte) : State :=
  s.setLine { s.line with holder := .tx { kind := kind, address := address, phase := .sending }, out := some bytes }

/-- The line becomes free. -/
def State.freeLine (s : State) : State := s.setLine { s.line with holder := .free, out := none }

/-- Whether a cutter has been removed since the broadcast in progress began; a cutter that has its number now is another
(R142). -/
def State.removedSince (s : State) (n : Nat) : Bool := s.line.broadcast.any fun b => b.removed.contains n

/-- Whether a cutter of a broadcast is still defined, bound to its slot's address, and at a CUTTER station, as a place on the
missed list asks (R143; log entry 14). -/
def State.cutterStands (s : State) (r : SlotRef) : Bool :=
  (s.cutter? r.onCutter).any (fun c => c.address == r.address) && s.stationIs r.address .cutter &&
    !s.removedSince r.onCutter

/-- Whether a slot still has its cutter (R142): it stands, by the binding it had when the broadcast began. -/
def State.slotStands (s : State) (r : SlotRef) : Bool :=
  s.cutterStands r && !s.line.broadcast.any fun b => b.rebound.contains r.onCutter

/-- The expected cutters of a broadcast in ascending order of station address (R142). -/
def State.expectedCutters (s : State) : List SlotRef :=
  s.line.roster.filterMap fun st =>
    if st.kind = .cutter ∧ st.link ≠ .unreachable then
      (s.cutterAt st.address).map fun c => { onCutter := c.number, address := st.address }
    else none

/-- The broadcast in progress begins (R142): its expected cutters are fixed and its frame goes to address 0. -/
def State.beginBroadcast (s : State) (b : Broadcast) : State :=
  s.setLine { s.line with
    broadcast := some { b with begun := true, slots := s.expectedCutters, missed := [], attempts := 0, removed := [], rebound := [] }
    holder := .frame
    out := some (broadcastFrame 0 b.kind) }

/-- The broadcast in progress ends; the pending order, if any, starts the next (R141). -/
def State.endBroadcast (s : State) : State :=
  s.setLine { s.line with
    broadcast := s.line.pendingBroadcast.map fun k =>
      { kind := k, begun := false, slots := [], missed := [], attempts := 0, removed := [], rebound := [] }
    pendingBroadcast := none }

/-- The address a command goes to, when its cutter is defined and the roster holds a CUTTER station there (R138). The cutter
is the one that bears the number when the attempt is made, also when it was defined anew since the command joined (log
entry 31). -/
def State.sendableTo (s : State) (c : Command) : Option Nat :=
  match s.cutter? c.onCutter with
  | none => none
  | some k => if s.stationIs k.address .cutter then some k.address else none

/-- The report of a command that failed after its retries (R136, R137, R138). -/
def Command.failure (c : Command) : LineReport :=
  match c.kind with
  | .start id => .startFailed c.onCutter id
  | .abort => .abortFailed c.onCutter

/-- The command byte of a line command (10, COMMAND payload): 1 START, 2 ABORT. -/
def CommandKind.code : CommandKind → Nat
  | .start _ => 1
  | .abort => 2

/-- A command has failed after its retries: it is reported, unless it is a START whose record has ended, of which nothing
is left to end (R57, R63, R136). -/
def State.commandFailed (s : State) (c : Command) : State := if c.orphan then s else s.report c.failure

/-- The COMMAND frame of a command (R137), to the address its cutter is bound to. -/
def Command.frame (c : Command) (address : Nat) : List Byte := floorFrame address 1 (be1 c.kind.code ++ c.body)

/-- Whether a station wants a cutter or reader poll (R135). -/
def State.wantsPoll (s : State) (st : Station) : Bool :=
  match st.kind with
  | .cutter => (s.cutterAt st.address).any fun c =>
      !c.uncertain.isEmpty || s.cutting.records.any fun r => r.onCutter == c.number && r.state.sentOrLater
  | .reader => st.nextPoll.any fun t => reached s.seconds t
  | .node => false

/-- The address the rotation polls next (R135): the lowest wanting address above the rotation's, else the lowest. -/
def State.nextRotation (s : State) : Option Nat :=
  let wanting := (s.line.roster.filter s.wantsPoll).map Station.address
  match wanting.filter (s.line.rotation < ·) with
  | a :: l => some (l.foldl min a)
  | [] => match wanting with
    | a :: l => some (l.foldl min a)
    | [] => none

/-- The arbiter's move at level 3, and below it at the cutter and reader polls (R134). -/
def State.grantPoll (s : State) : Option (State × Bool) :=
  let e := s.water.engine
  if e.due then
    let s := s.setEngine { e with due := false }
    match e.current.bind s.channel? with
    | some ch =>
      if s.stationIs ch.address .node then
        some ((s.setEngine { e with due := false, inFlight := some ⟨ch.number, e.run⟩ }).openTx
          (.scanPoll ch.number ch.index e.run) ch.address (pollFrame ch.address ch.index), false)
      else some (s.engineAdvance, true)
    | none => some (s.engineAdvance, true)
  else match s.nextRotation with
    | some a => some ((s.setLine { s.line with rotation := a }).openTx .poll a (pollFrame a 0), false)
    | none => none

/-- The arbiter's next move with the line free (R134): either it hands the line out or ends a broadcast, passes over a
command or a poll that cannot be sent (the flag is true: look again), or nothing waits (none). A pass whose time has come
goes ahead of every cutter and reader poll, also before its own event is taken (R105). The turn of a channel whose node is
gone is taken as unanswered, when the due poll's own turn for the line comes (R107; log entry 24). -/
def State.grantStep (s : State) : Option (State × Bool) :=
  match s.line.broadcast with
  | some b =>
    if !b.begun then some (s.beginBroadcast b, false)
    else match b.missed with
      | [] => some (s.endBroadcast, true)
      | r :: rest =>
        if s.cutterStands r then
          some ((s.setLine { s.line with broadcast := some { b with attempts := b.attempts + 1 } }).openTx
            (.retry r) r.address (broadcastFrame r.address b.kind), false)
        else some (s.setLine { s.line with broadcast := some { b with missed := rest, attempts := 0 } }, true)
  | none =>
    match s.line.queue with
    | c :: rest =>
      match s.sendableTo c with
      | some address =>
        some ((s.setLine { s.line with queue := { c with attempts := c.attempts + 1 } :: rest }).openTx
          .command address (c.frame address), false)
      | none => some ((s.setLine { s.line with queue := rest }).commandFailed c, true)
    | [] => s.startDuePass.grantPoll

/-- The arbiter (R134): hands the line out when it is free and a demand waits; `n` bounds how many demands it passes
over. -/
def State.grantTimes : Nat → State → State
  | 0, s => s
  | n + 1, s =>
    if s.line.holder = .free then
      match s.grantStep with
      | some (s', true) => State.grantTimes n s'
      | some (s', false) => s'
      | none => s
    else s

/-- The arbiter, with enough looks for every demand that can be passed over: the missed list, the queue, one pass of the
scan list, and the ends of two broadcasts (log entry 24). -/
def State.grant (s : State) : State :=
  s.grantTimes ((s.line.broadcast.map fun b => b.missed.length).getD 0 + s.line.queue.length +
    s.water.engine.scanList.length + 5)

/-! ### Slots of a broadcast (R142) -/

/-- The next slot opens, or the line is free for the addressed retries when there is none. -/
def State.nextSlot (s : State) : State :=
  match s.line.broadcast with
  | none => s.freeLine
  | some b => match b.slots with
    | [] => s.freeLine
    | r :: rest =>
      s.setLine { s.line with broadcast := some { b with slots := rest }, holder := .slot r false, out := none }

/-- A slot ends with a good ACK from its station (R142): the station is credited, the cutter told, unless its slot no
longer stands. -/
def State.slotAcked (s : State) (r : SlotRef) : State :=
  let k := (s.line.broadcast.map Broadcast.kind).getD .hold
  let s := s.creditStation r.address
  (if s.slotStands r then s.broadcastAcked k r.onCutter else s).nextSlot

/-- A slot ends as missed (R142): its cutter joins the missed list, unless the slot no longer stands. -/
def State.slotMissed (s : State) (r : SlotRef) : State :=
  (if s.slotStands r then s.changeBroadcast fun b => { b with missed := b.missed ++ [r] } else s).nextSlot

/-! ### Addressed retries (R143) -/

/-- The head of the missed list leaves it. -/
def State.dropMissed (s : State) : State :=
  s.changeBroadcast fun b => { b with missed := b.missed.tail, attempts := 0 }

/-- The retry of a cutter ends as acknowledged (R143), and R64 applies; a cutter removed during the attempt is told
nothing. -/
def State.retryAcked (s : State) (r : SlotRef) : State :=
  (if s.removedSince r.onCutter then s
    else s.broadcastAcked ((s.line.broadcast.map Broadcast.kind).getD .hold) r.onCutter).dropMissed

/-- The retry of a cutter ends as failed (R143): HOLD_UNACKED; then, when the station is not UNREACHABLE, it becomes so and
the cutter is reported, unless it was removed during the attempt (log entries 13, 18). -/
def State.retryFailed (s : State) (r : SlotRef) : State :=
  let gone := s.removedSince r.onCutter
  let s := (s.raise .holdUnacked r.onCutter).dropMissed
  match s.station? r.address with
  | none => s
  | some st =>
    if st.link = .unreachable then s
    else if gone then s.loseStation st
    else (s.loseStation st).report (.unreachable r.onCutter)

/-- After a failed attempt of an addressed retry (R143): the retry ends as failed when the attempt brought the station to
UNREACHABLE or was the last. A cutter that no longer stands is passed over before a further attempt (`grantStep`). -/
def State.retryAttemptFailed (s : State) (r : SlotRef) (lost : Bool) : State :=
  if lost || decide (s.line.active.retries < (s.line.broadcast.map Broadcast.attempts).getD 0) then s.retryFailed r
  else s

/-! ### Command attempts (R137) -/

/-- The head command leaves the queue. -/
def State.popCommand (s : State) : State := s.setLine { s.line with queue := s.line.queue.tail }

/-- The attempt of the head command was acknowledged (R137, R62). The ACK of a START whose record has ended changes no
record. -/
def State.commandAcked (s : State) : State :=
  match s.line.queue with
  | [] => s
  | c :: _ =>
    let s := s.popCommand
    match c.kind with
    | .start id => if c.orphan then s else s.startAcked c.onCutter id
    | .abort => s

/-- The attempt of the head command failed (R137): it is sent again, or leaves the queue and is reported failed when the
attempts made exceed the active retry count. -/
def State.commandAttemptFailed (s : State) : State :=
  match s.line.queue with
  | [] => s
  | c :: _ => if s.line.active.retries < c.attempts then s.popCommand.commandFailed c else s

/-! ### The end of a transaction -/

/-- When a reader poll's transaction ends, its next poll is set (R135). -/
def State.readerPolled (s : State) (address : Nat) : State :=
  match s.station? address with
  | none => s
  | some st =>
    if st.kind = .reader then
      s.putStation { st with nextPoll := some (secondsAfter s.seconds s.line.active.readerInterval) }
    else s

/-- Whether a station stands as UNREACHABLE. -/
def State.isLost (s : State) (address : Nat) : Bool := (s.station? address).any fun st => st.link == .unreachable

/-- A transaction ends as failed (R132, R133): the failure counts, with STATION_UNREACHABLE where it is the third, then what
the transaction was for, also where that ends a SWEEP (log entry 34). -/
def State.txFailed (s : State) (t : Tx) : State :=
  let before := s.isLost t.address
  let s := (s.failStation t.address).freeLine
  match t.kind with
  | .command => s.commandAttemptFailed
  | .retry r => s.retryAttemptFailed r (s.isLost t.address && !before)
  | .scanPoll _ _ _ => s.scanPollOver
  | .poll => s.readerPolled t.address

/-- The part answers an answer of a poll, or one out of place, with ACK or NAK (R140); the transaction ends when it is
sent (R132), and what came back for a scan poll is kept until then (R107; log entry 8). -/
def State.closeTx (s : State) (t : Tx) (ack : Bool) (o : PollOutcome) : State :=
  s.setLine { s.line with
    holder := .tx { t with phase := .closing o }, out := some (ackFrame t.address ack) }

/-- A good reply that is an ACK (R137, R139, R143). -/
def State.txAcked (s : State) (t : Tx) : State :=
  let s := (s.creditStation t.address).freeLine
  match t.kind with
  | .command => s.commandAcked
  | .retry r => s.retryAcked r
  | .scanPoll _ _ _ => s.scanPollOver
  | .poll => s.readerPolled t.address

/-- A good reply that is a NAK or a NONE answer: a failed attempt that leaves the station UP (R137, R143), or a poll
answered with nothing (R139). -/
def State.txNothing (s : State) (t : Tx) : State :=
  let s := (s.creditStation t.address).freeLine
  match t.kind with
  | .command => s.commandAttemptFailed
  | .retry r => s.retryAttemptFailed r false
  | .scanPoll _ _ _ => s.scanPollOver
  | .poll => s.readerPolled t.address

/-- A good reply that is a COMPLETION, SCAN or VALUE, out of place in a command attempt or an addressed retry, is answered
with NAK (R137, R140, R143). -/
def State.txOutOfPlace (s : State) (t : Tx) : State := (s.creditStation t.address).closeTx t false .unanswered

/-- What a scan poll's answer is when its transaction ends (R107, R139): the roster decides at that moment, and from a
station that is no node nothing comes (log entry 20). -/
def State.pollOutcome (s : State) (address : Nat) (o : PollOutcome) : PollOutcome :=
  if s.stationIs address .node then o else .unanswered

/-- The transaction of an answered scan poll has ended (R105 to R108): what came back is dealt with, the poll in flight
becomes absent, and the engine moves on, all in the one end. -/
def State.scanPollAnswered (s : State) (address number polledIndex : Nat) (o : PollOutcome) : State :=
  (s.dealWith number polledIndex (s.pollOutcome address o)).scanPollOver

/-- The ACK or NAK that answers the answer has gone, and the transaction ends (R132): what came back for a scan poll is
dealt with and the engine moves on (R105, R107), a reader's next poll is set (R135), and an attempt that an answer out of
place met has failed (R137, R143). -/
def State.txClosed (s : State) (t : Tx) (o : PollOutcome) : State :=
  let s := s.freeLine
  match t.kind with
  | .command => s.commandAttemptFailed
  | .retry r => s.retryAttemptFailed r false
  | .scanPoll n i _ => s.scanPollAnswered t.address n i o
  | .poll => s.readerPolled t.address

/-- What a frame that has come in is to the line port (R132, R142, R183). -/
inductive Arrival where
  | nothing                            -- no frame was coming in
  | discarded                          -- it began outside a window, or no transaction is open
  | foreign (t : Tx)                   -- a good frame of another station: discarded, the window runs on
  | reply (t : Tx)                     -- the good reply of the open transaction
  | inSlot (r : SlotRef)               -- a frame in a broadcast slot
  deriving DecidableEq, Repr

/-- Classes a frame that has come in from an address. -/
def State.arrival (s : State) (address : Nat) : Arrival :=
  match s.line.receiving with
  | none => .nothing
  | some false => .discarded
  | some true =>
    match s.line.holder with
    | .free | .frame => .discarded
    | .slot r _ => .inSlot r
    | .tx t => match t.phase with
      | .window _ => if address = t.address then .reply t else .foreign t
      | .sending | .closing _ => .discarded

/-- The line port hunts again from the next byte (R183). -/
def State.hunt (s : State) : State := s.setLine { s.line with receiving := none }

/-- A good frame of another station arrives inside the window (R132): discarded; when the window has run out meanwhile,
the transaction ends as failed now. -/
def State.foreignFrame (s : State) (t : Tx) : State :=
  if t.phase = .window true then s.txFailed t else s

/-- A good frame other than the slot's own ACK makes the slot missed, and credits the slot's station when it is from it
(R142). -/
def State.slotOther (s : State) (r : SlotRef) (address : Nat) : State :=
  (if address = r.address then s.creditStation r.address else s).slotMissed r

/-- A frame with bad framing or a bad check (R183): inside a window it ends the transaction as failed or makes the slot
missed; otherwise it is discarded. -/
def State.badFrame (s : State) : State :=
  match s.line.receiving with
  | none => s
  | some false => s.hunt
  | some true =>
    let s := s.hunt
    match s.line.holder with
    | .free | .frame => s
    | .slot r _ => s.slotMissed r
    | .tx t => match t.phase with
      | .window _ => s.txFailed t
      | .sending | .closing _ => s

end Sys2Proof.Machine
end

