-- ==== Sys2Proof/Machine/Settle.lean ====
section
/-! DEFINITION. What stands around every step: `finish` lets the two arbiters move on after it (the floor line R134, the office
link R160), and `settle` takes what earlier steps left due, each thing with the arbiters moving on after it (reports of
the line port to the cutter controller, timers at their limit, channels found stale, a due pass, a reader poll; log
entry 2). -/

namespace Sys2Proof.Machine

/-! ### What is due -/

/-- The cutter controller takes one report of the line port (R63, R71, R74). A failed ABORT changes nothing. -/
def State.takeReport (s : State) (r : LineReport) : State :=
  match r with
  | .startFailed n id =>
    let (s, ended) := s.startFailed n id
    s.reevaluateIf ended
  | .abortFailed _ => s
  | .unreachable n =>
    let (s, ended) := s.cutterLost n
    s.reevaluateIf ended

/-- The record with a cut id times out when its timer has reached the limit (R65); the gate is told once (R57). -/
def State.timeOutId (s : State) (id : Nat) : State :=
  match s.record? id with
  | none => s
  | some r => if s.timedOut r then (s.timeOut r).reevaluate else s

/-- The cut ids of the records whose timer has reached the limit. -/
def State.timedOutIds (s : State) : List Nat := (s.cutting.records.filter s.timedOut).map CutRecord.id

/-- The channel with a number enters stale when the last second found it past the limit and nothing has freshened it
since (R100). -/
def State.staleId (s : State) (n : Nat) : State :=
  match s.channel? n with
  | none => s
  | some ch => if ch.staleAt s.seconds s.line.staleness && !ch.stale then s.enterStale ch else s

/-- A reader wants its poll while the floor line is free (R134, R135). -/
def State.readerWaits (s : State) : Bool :=
  s.line.holder == .free && s.line.roster.any fun st => st.kind == .reader && st.nextPoll.any fun t => reached s.seconds t

/-- Nothing is due: no report, no timer at its limit, no channel to enter stale, no due pass, no reader poll that a free
line waits for. -/
def State.quiet (s : State) : Bool :=
  s.line.reports.isEmpty && s.timedOutIds.isEmpty && s.water.staleDue.isEmpty && !s.passDue && !s.readerWaits

/-- The first thing that is due, taken: a report, a timer at its limit, a channel to enter stale, a due pass; or a reader
poll, which waits for the arbiter alone (log entry 2). -/
def State.takeDue (s : State) : Option State :=
  match s.line.reports with
  | r :: rest => some ((s.setLine { s.line with reports := rest }).takeReport r)
  | [] => match s.timedOutIds with
    | id :: _ => some (s.timeOutId id)
    | [] => match s.water.staleDue with
      | n :: rest => some ((s.setWater { s.water with staleDue := rest }).staleId n)
      | [] => if s.passDue then some s.startDuePass else if s.readerWaits then some s else none

/-! ### The output arbiter of the office link (R160) -/

/-- With the link free, the oldest waiting REPLY is sent, or else the head REPORT, which leaves the queue. -/
def State.outputStart (s : State) : State :=
  match s.office.sending with
  | some _ => s
  | none =>
    match s.office.replies with
    | r :: rest => s.setOffice { s.office with sending := some (.reply r), replies := rest }
    | [] =>
      match s.alarms.reports with
      | r :: rest =>
        (s.setAlarms { s.alarms with reports := rest }).setOffice { s.office with sending := some (.report (reportFrame r)) }
      | [] => s

/-- The two arbiters move on: the floor line is handed out when it is free, and the next office frame starts. -/
def State.finish (s : State) : State := s.grant.outputStart

/-! ### Settling -/

/-- Takes what is due, one thing after another, the arbiters moving on after each; `n` bounds how many. -/
def State.settleTimes : Nat → State → State
  | 0, s => s
  | n + 1, s =>
    match s.takeDue with
    | none => s
    | some t => State.settleTimes n t.finish

/-- Takes everything that is due (log entry 2). The bound holds every report that stands or that an unsendable command
still brings, every timer and every stale channel, the due pass and the reader poll. -/
def State.settle (s : State) : State :=
  s.settleTimes (s.line.reports.length + s.line.queue.length + s.gate.waiting.length + s.cutting.records.length +
    s.water.staleDue.length + 2)

end Sys2Proof.Machine
end

