-- ==== Sys2Proof/Machine/Operands.lean ====
section
/-! DEFINITION. The operand forms of an office item: the outcome of its owner (R151, R166), operands from the item or the
context (R155), range and existence checks (R166), and the taking of one item of the frame in hand with its result
and, at the end of the frame, its REPLY (R150, R151, R153, R158). -/

namespace Sys2Proof.Machine

/-- What the owner of an item answers: taken with a code and data, or refused, and then nothing has changed (R166). -/
inductive Owned where
  | taken (code : ResultCode) (data : List Byte) (s : State)
  | refused (code : ResultCode)
  deriving DecidableEq, Repr

/-- Taken with OK and no data. -/
def Owned.ok (s : State) : Owned := .taken .ok [] s
/-- Taken with OK and data. -/
def Owned.okWith (data : List Byte) (s : State) : Owned := .taken .ok data s

/-! ### Checks -/

/-- A check: the item goes on when it holds, and is refused with the code otherwise. -/
def ensure (holds : Bool) (code : ResultCode) (k : Owned) : Owned := if holds then k else .refused code

/-- An operand or a record the item needs: the item goes on with it, and is refused with the code when it is absent. -/
def need {α : Type} (o : Option α) (code : ResultCode) (k : α → Owned) : Owned :=
  match o with
  | some a => k a
  | none => .refused code

/-- The item's operand, or else the context's field (R155). -/
def orContext (operand ctx : Option Nat) : Option Nat := operand <|> ctx

/-- The fixed ranges: a job, a cutter, a channel, a step, a floor address, a slab id. -/
def jobRange (n : Nat) : Bool := n ≤ 63
def cutterRange (n : Nat) : Bool := 1 ≤ n && n ≤ 8
def channelRange (n : Nat) : Bool := n ≤ 15
def stepRange (n : Nat) : Bool := 1 ≤ n && n ≤ 40
def addressRange (n : Nat) : Bool := 1 ≤ n && n ≤ 24
def slabRange (n : Nat) : Bool := 1 ≤ n && n ≤ 4294967295
/-- A number between two bounds, both included. -/
def within (lo hi n : Nat) : Bool := lo ≤ n && n ≤ hi
/-- An operand that may be absent lies in its range when it is present. -/
def inRange (range : Nat → Bool) (o : Option Nat) : Bool := o.all range

/-- A slab from the item or the context that the stock table holds, for the items that check by R166 (log entry 6). -/
def needSlab (s : State) (operand : Option Nat) (ctx : Context) (also : Bool) (k : Slab → Owned) : Owned :=
  need (orContext operand ctx.slab) .noContext fun id =>
    ensure (slabRange id && also) .badValue (need (s.slab? id) .noSuch k)

/-- A cutter from the item or the context that is defined, for the items that name a cutter alone. -/
def needCutter (s : State) (operand : Option Nat) (ctx : Context) (k : Cutter → Owned) : Owned :=
  need (orContext operand ctx.onCutter) .noContext fun n =>
    ensure (cutterRange n) .badValue (need (s.cutter? n) .noSuch k)

/-- A job from the item or the context in range. -/
def needJob (operand : Option Nat) (ctx : Context) (also : Bool) (k : Nat → Owned) : Owned :=
  need (orContext operand ctx.job) .noContext fun n => ensure (jobRange n && also) .badValue (k n)

/-! ### The frame in hand -/

/-- Whether a result marks a taken item (R151). -/
def ResultCode.isTaken : ResultCode → Bool
  | .ok | .held => true
  | _ => false

/-- The frame has ended: its REPLY is built and queued, and the handler holds no frame (R150, R158). -/
def State.endFrame (s : State) (origin tag : Nat) (results : List Result) : State :=
  (s.setOffice { s.office with replies := s.office.replies ++ [replyFrame origin tag results] }).setHandler
    { s.handler with inHand := none }

/-- The result of the item at the head of the frame in hand (R151): the frame goes on after a taken item that is not its
last; otherwise it ends, each item behind a refused one being NOT_TAKEN. -/
def State.answerItem (s : State) (h : InHand) (rest : List RawItem) (r : Result) : State :=
  if r.code.isTaken && !rest.isEmpty then
    s.setHandler { s.handler with inHand := some { h with items := rest, results := h.results ++ [r] } }
  else s.endFrame h.origin h.tag (h.results ++ r :: rest.map fun _ => ⟨.notTaken, []⟩)

/-- One item of the frame in hand is taken or refused: permission by the origin's record as it stands (R153), then the
owner, which reads the context of the origin record (R151). -/
def State.takeItem (s : State) (h : InHand) (rest : List RawItem) (area : Area) (owner : Origin → State → Owned) :
    State :=
  match s.origin? h.origin with
  | none => s.answerItem h rest ⟨.denied, []⟩
  | some o =>
    if o.maySend s.handler.openLevel area then
      match owner o s with
      | .taken code data s' => s'.answerItem h rest ⟨code, data⟩
      | .refused code => s.answerItem h rest ⟨code, []⟩
    else s.answerItem h rest ⟨.denied, []⟩

/-- The step of an office item: it is taken when it is the next item of the frame in hand; otherwise nothing happens to
it (log entry 1). -/
def State.itemStep (s : State) (i : Instr) (area : Area) (owner : Origin → State → Owned) : State :=
  let s := s.settle
  (match s.handler.inHand with
    | none => s
    | some h => match h.items with
      | [] => s
      | raw :: rest => if decodeItem raw = some i then s.takeItem h rest area owner else s).finish

end Sys2Proof.Machine
end

