-- ==== Sys2Proof/Machine/Alarm.lean ====
section
/-! DEFINITION. The items of the alarm unit (spec/09): ALARM ACTION (R172), TAKE ALARM (R173), READ ALARMS (R174). -/

namespace Sys2Proof.Machine

/-- The alarm kinds in the order of R167's table, numbered from 1 (R179). -/
def AlarmKind.all : List AlarmKind :=
  [.channelLimit, .waterCritical, .channelStale, .stationUnreachable, .holdUnacked, .cutTimeout, .lateCompletion,
   .echoMismatch, .cutterFault, .toolLow, .toolWorn, .jobOverQuote, .costOverflow, .stockFull, .remnantScrapped,
   .flawOnIssued]
/-- An alarm kind by its number. -/
def alarmKindOf (n : Nat) : Option AlarmKind := AlarmKind.all.find? fun k => k.code == n
/-- An action by its number. -/
def alarmActionOf (n : Nat) : Option AlarmAction :=
  [AlarmAction.report, .cutterStop, .jobStop, .lineHold].find? fun a => a.code == n
/-- Whether an action is admitted for a kind (R168). -/
def AlarmAction.admittedFor (a : AlarmAction) (k : AlarmKind) : Bool :=
  match a with
  | .report | .lineHold => true
  | .cutterStop => k.subjectIsCutter
  | .jobStop => k.subjectIsJob

/-- The alarm unit changed outside a raise: the gate is told when the number of pending LINE_HOLD entries has moved across
0 (R171), and recomputes line hold. -/
def State.changeAlarms (s : State) (a : Alarms) : State :=
  let before := s.alarms.holdCount
  let s := s.setAlarms a
  let after := a.holdCount
  if (before == 0) = (after == 0) then s
  else (s.setGate { s.gate with alarmSource := after != 0 }).recomputeHoldAndWalk

/-- The tables after an ALARM ACTION (R172): the kind's entry, and the priority of every pending entry of the kind. -/
def Alarms.reacted (a : Alarms) (k : AlarmKind) (priority : Nat) (action : AlarmAction) : Alarms :=
  { a with
    actions := a.actions.map fun e => if e.kind = k then { e with priority := priority, action := action } else e
    entries := a.entries.map fun e => if e.kind = k then { e with priority := priority } else e }

/-- ALARM ACTION (R172). -/
def alarmActionItem (kind priority action : Nat) (_ : Origin) (s : State) : Owned :=
  need (alarmKindOf kind) .badValue fun k =>
    need (alarmActionOf action) .badValue fun a =>
      ensure (within 1 7 priority && a.admittedFor k) .badValue (.ok (s.changeAlarms (s.alarms.reacted k priority a)))
def execAlarmAction (kind priority action : Nat) (s : State) : Host.Outcome State Fault Refusal :=
  .next (s.itemStep (.alarmAction kind priority action) .table (alarmActionItem kind priority action))

/-- TAKE ALARM (R173): the head of the take order leaves the table and is returned behind one presence byte; an empty table
gives the presence byte 0 alone (log entry 7). -/
def takeAlarmItem (_ : Origin) (s : State) : Owned :=
  match s.alarms.takeOrder with
  | [] => .okWith (be1 0) s
  | e :: _ =>
    .okWith (be1 1 ++ e.bytes (s.alarms.actionOf e.kind))
      (s.changeAlarms { s.alarms with entries := s.alarms.entries.filter fun f => !f.isOf e.kind e.subject })
def execTakeAlarm (s : State) : Host.Outcome State Fault Refusal := .next (s.itemStep .takeAlarm .alarm takeAlarmItem)

/-- READ ALARMS (R174). -/
def readAlarmsItem (_ : Origin) (s : State) : Owned := .okWith s.alarms.bytes s
def execReadAlarms (s : State) : Host.Outcome State Fault Refusal :=
  .next (s.itemStep .readAlarms .read readAlarmsItem)

end Sys2Proof.Machine
end

