-- ==== Sys2Proof/Machine/Floor.lean ====
section
/-! DEFINITION. The items of the line port (spec/07): STATION and its removal (R130, R131), LINE SETTINGS (R145), FLOOR
RESTART (R146, R72, R110), READ ROSTER (R164). -/

namespace Sys2Proof.Machine

/-! ### The roster -/

/-- A station kind by its number on the wire (R179). -/
def stationKindOf (n : Nat) : Option StationKind :=
  if n = 1 then some .cutter else if n = 2 then some .reader else if n = 3 then some .node else none

/-- A new station (R130): a READER's first poll is due at once. -/
def Station.fresh (address : Nat) (kind : StationKind) (now : Nat) : Station :=
  { address := address, kind := kind, link := .unknown, failures := 0,
    nextPoll := if kind = .reader then some now else none }

/-- Whether what is bound to an address keeps its station as it is (R130, R131): a live cut record of the cutter bound to
it, or a channel at it in a running scan. -/
def State.addressBusy (s : State) (address : Nat) : Bool :=
  (s.cutterAt address).any (fun c => !c.slots.isEmpty) ||
    s.water.channels.any fun ch => ch.address == address && s.water.engine.scans ch.number

/-- The number of READER stations. -/
def State.readers (s : State) : Nat := s.line.roster.countP fun st => st.kind == .reader

/-- STATION (R130). -/
def stationItem (address kind : Nat) (_ : Origin) (s : State) : Owned :=
  need (stationKindOf kind) .badValue fun kind =>
    ensure (addressRange address) .badValue
      (ensure (kind != .reader || s.stationIs address .reader || decide (s.readers < Config.maxReaders)) .full
        (match s.station? address with
          | none => .ok (s.putStation (Station.fresh address kind s.seconds))
          | some st =>
            if st.kind = kind then .ok s
            else ensure (!s.addressBusy address) .wrongState
              (.ok (s.putStation (Station.fresh address kind s.seconds)))))
def execStation (address kind : Nat) (s : State) : Host.Outcome State Fault Refusal :=
  .next (s.itemStep (.station address kind) .table (stationItem address kind))

/-- STATION with the remove mark (R131). -/
def stationRemoveItem (address : Nat) (_ : Origin) (s : State) : Owned :=
  ensure (addressRange address) .badValue
    (ensure (s.station? address).isSome .noSuch
      (ensure (!s.addressBusy address) .wrongState
        (.ok (s.setLine { s.line with roster := remove Station.address address s.line.roster }))))
def execStationRemove (address : Nat) (s : State) : Host.Outcome State Fault Refusal :=
  .next (s.itemStep (.stationRemove address) .table (stationRemoveItem address))

/-! ### LINE SETTINGS -/

/-- The state after a LINE SETTINGS that is taken (R145): the pending set, the staleness limit and the pass interval; a
pass that the new interval makes due is due at once (R105). -/
def State.resettled (s : State) (p : TxSettings) (staleness passInterval : Nat) : State :=
  (s.setLine { s.line with pendingSet := p, staleness := staleness, passInterval := passInterval }).startDuePass

/-- LINE SETTINGS (R145). -/
def lineSettingsItem (window retries readerInterval staleness passInterval : Nat) (_ : Origin) (s : State) : Owned :=
  ensure (within 5 200 window && within 0 3 retries && within 1 10 readerInterval && within 2 120 staleness &&
      within 1 60 passInterval) .badValue
    (.ok (s.resettled ⟨window, retries, readerInterval⟩ staleness passInterval))
def execLineSettings (window retries readerInterval staleness passInterval : Nat) (s : State) :
    Host.Outcome State Fault Refusal :=
  .next (s.itemStep (.lineSettings window retries readerInterval staleness passInterval) .table
    (lineSettingsItem window retries readerInterval staleness passInterval))

/-! ### FLOOR RESTART (R146) -/

/-- Steps 1 and 2: the transaction in flight, the broadcasts and the command queue are dropped. A frame coming in goes on
coming in, outside any window (log entry 15). -/
def State.dropInFlight (s : State) : State :=
  s.setLine { s.line with
    holder := .free, out := none, broadcast := none, pendingBroadcast := none, queue := []
    receiving := s.line.receiving.map fun _ => false }

/-- Step 3 for one station: UNKNOWN with failure count 0, and a reader's poll due at once. -/
def Station.restarted (st : Station) (now : Nat) : Station :=
  { st with link := .unknown, failures := 0, nextPoll := if st.kind = .reader then some now else st.nextPoll }

/-- Step 3: the roster and the rotation. -/
def State.restartStations (s : State) : State :=
  s.setLine { s.line with
    roster := s.line.roster.map fun st => st.restarted s.seconds
    rotation := 0 }

/-- Step 4 for one cutter (R72): its records in SENT or later end FAILED(RESTART), in slot order, oldest first (log entry
33); a cutter that had one goes FAULTED and is swept; its hold mark is cleared. -/
def State.restartCutter (s : State) (n : Nat) : State :=
  let sent := (s.slotsOf n).filter fun id => (s.record? id).any fun r => r.state.sentOrLater
  let s := s.endAll sent (.failed .restart)
  let s := if sent.isEmpty then s else (s.faultCutter n).faultSweep n
  s.changeCutter n fun c => { c with holdMark := false }

/-- Step 4: every cutter, the scan engine (R110), and the gate told once when a record has ended (R57). -/
def State.restartWork (s : State) : State :=
  let ended := s.cutting.records.any fun r => r.state.sentOrLater
  let s := (s.cutting.cutters.map Cutter.number).foldl State.restartCutter s
  let s := s.setEngine { s.water.engine.stopped with inFlight := none }
  s.reevaluateIf ended

/-- Steps 5 and 6: the pending settings become active, and HOLD is broadcast again while line hold is ON. -/
def State.restartLine (s : State) : State :=
  let s := s.setLine { s.line with active := s.line.pendingSet }
  if s.gate.lineHold then s.orderBroadcast .hold else s

/-- FLOOR RESTART (R146). -/
def floorRestartItem (_ : Origin) (s : State) : Owned :=
  .ok s.dropInFlight.restartStations.restartWork.restartLine
def execFloorRestart (s : State) : Host.Outcome State Fault Refusal :=
  .next (s.itemStep .floorRestart .table floorRestartItem)

/-- READ ROSTER (R164). -/
def readRosterItem (_ : Origin) (s : State) : Owned := .okWith s.rosterBytes s
def execReadRoster (s : State) : Host.Outcome State Fault Refusal :=
  .next (s.itemStep .readRoster .read readRosterItem)

end Sys2Proof.Machine
end

