-- ==== Sys2Proof/Machine/Slabs.lean ====
section
/-! DEFINITION. The stock table (spec/01): the stock items (R6 to R10, R14, R15), the taking of a reader's scan (R3 to R5)
and the unload sequence (R16 to R18). -/

namespace Sys2Proof.Machine

/-! ### Stock items -/

/-- PRICE (R6). -/
def priceItem (slab : Option Nat) (basis : Nat) (lot : Option Nat) (o : Origin) (s : State) : Owned :=
  needSlab s slab o.ctx (decide (basis ≤ 1000000) && inRange (within 0 255) lot) fun sl =>
    .ok (s.putSlab { sl with basis := some basis, lot := lot.getD sl.lot })
def execPrice (slab : Option Nat) (basis : Nat) (lot : Option Nat) (s : State) : Host.Outcome State Fault Refusal :=
  .next (s.itemStep (.price slab basis lot) .stock (priceItem slab basis lot))

/-- The state after a RESERVE that is taken (R7): RESERVED for the job; a remnant is touched. -/
def State.reserved (s : State) (sl : Slab) (job : Nat) : State :=
  let s := s.putSlab { sl with state := .reserved job }
  if sl.remnant.isSome then s.touch sl.id else s

/-- RESERVE (R7), its checks in the order of its table. -/
def reserveItem (slab job : Option Nat) (o : Origin) (s : State) : Owned :=
  need (orContext slab o.ctx.slab) .noContext fun id =>
    need (orContext job o.ctx.job) .noContext fun j =>
      ensure (jobRange j) .badValue
        (need (s.slab? id) .noSuch fun sl =>
          ensure sl.isStocked .wrongState
            (ensure sl.basis.isSome .noBasis (ensure (s.jobOpen j) .jobClosed (.ok (s.reserved sl j)))))
def execReserve (slab job : Option Nat) (s : State) : Host.Outcome State Fault Refusal :=
  .next (s.itemStep (.reserve slab job) .stock (reserveItem slab job))

/-- RELEASE (R8). -/
def releaseItem (slab : Option Nat) (o : Origin) (s : State) : Owned :=
  needSlab s slab o.ctx true fun sl =>
    ensure (sl.isReserved && (s.plan? sl.id).isNone) .wrongState (.ok (s.putSlab { sl with state := .stocked }))
def execRelease (slab : Option Nat) (s : State) : Host.Outcome State Fault Refusal :=
  .next (s.itemStep (.release slab) .stock (releaseItem slab))

/-- The state after a DISCARD that is taken (R9): the record is removed and reported, and a slab with a basis is charged to
job 0. -/
def State.discarded (s : State) (sl : Slab) : State :=
  let s := (s.dropSlab sl.id).stockReport .removed sl.id
  match sl.basis with
  | none => s
  | some b => s.chargeStone 0 (sl.length * sl.width) b

/-- DISCARD (R9). -/
def discardItem (slab : Option Nat) (o : Origin) (s : State) : Owned :=
  needSlab s slab o.ctx true fun sl => ensure sl.isStocked .wrongState (.ok (s.discarded sl))
def execDiscard (slab : Option Nat) (s : State) : Host.Outcome State Fault Refusal :=
  .next (s.itemStep (.discard slab) .stock (discardItem slab))

/-- Of slabs in recency order, the one of the smallest area, the nearest to the head among equals (R14). -/
def smallest : List Slab → Option Slab
  | [] => none
  | a :: l => match smallest l with
    | none => some a
    | some b => if b.length * b.width < a.length * a.width then some b else some a

/-- The candidates of a search in recency order (R14). -/
def State.candidates (s : State) (length width : Nat) (lot : Option Nat) : List Slab :=
  (s.stock.recency.filterMap s.slab?).filter fun sl =>
    sl.isStocked && decide (length ≤ sl.length) && decide (width ≤ sl.width) && lot.all (· == sl.lot)

/-- FIND REMNANT (R14). -/
def findRemnantItem (length width : Nat) (lot : Option Nat) (_ : Origin) (s : State) : Owned :=
  ensure (within 1 3600 length && within 1 2100 width && inRange (within 0 255) lot) .badValue
    (match smallest (s.candidates length width lot) with
      | none => .okWith (beField be4 none) s
      | some sl => .okWith (beField be4 (some sl.id)) (s.touch sl.id))
def execFindRemnant (length width : Nat) (lot : Option Nat) (s : State) : Host.Outcome State Fault Refusal :=
  .next (s.itemStep (.findRemnant length width lot) .stock (findRemnantItem length width lot))

/-- REMNANT LIMITS (R15). -/
def remnantLimitsItem (width length : Nat) (_ : Origin) (s : State) : Owned :=
  ensure (within 100 2100 width && within 100 3600 length) .badValue
    (.ok (s.setStock { s.stock with minWidth := width, minLength := length }))
def execRemnantLimits (width length : Nat) (s : State) : Host.Outcome State Fault Refusal :=
  .next (s.itemStep (.remnantLimits width length) .stock (remnantLimitsItem width length))

/-- READ SLAB (R10). -/
def readSlabItem (slab : Option Nat) (o : Origin) (s : State) : Owned :=
  needSlab s slab o.ctx true fun sl => .okWith sl.bytes s
def execReadSlab (slab : Option Nat) (s : State) : Host.Outcome State Fault Refusal :=
  .next (s.itemStep (.readSlab slab) .read (readSlabItem slab))

/-! ### Reader scans (R3 to R5) -/

/-- A SCAN answer as the reader gives it. -/
structure ScanData where
  tag       : Nat
  lot       : Nat
  length    : Nat
  width     : Nat
  thickness : Nat
  zones     : List Zone
  deriving DecidableEq, Repr

/-- A zone lies inside a rectangle of length L and width W with positive area (R1, R3). -/
def zoneInside (z : Zone) (l w : Nat) : Bool :=
  decide (z.xFrom < z.xTo) && decide (z.xTo ≤ l) && decide (z.yFrom < z.yTo) && decide (z.yTo ≤ w)

/-- A SCAN answer is in range (R3). -/
def ScanData.inRange (d : ScanData) : Bool :=
  within 1 3999999999 d.tag && within 300 3600 d.length && within 300 2100 d.width && within 10 80 d.thickness &&
    decide (d.zones.length ≤ 4) && d.zones.all fun z => zoneInside z d.length d.width

/-- The record a scan of an unknown tag creates (R4). -/
def ScanData.record (d : ScanData) : Slab :=
  { id := d.tag, lot := d.lot, length := d.length, width := d.width, thickness := d.thickness, basis := none,
    state := .stocked, remnant := none, zones := d.zones, geom := Geometry.uncut d.width }

/-- A zone clipped to a rectangle of length L and width W; none when nothing of it is left (R5). -/
def zoneClip (z : Zone) (l w : Nat) : Option Zone :=
  let c : Zone := { xFrom := z.xFrom, xTo := min z.xTo l, yFrom := z.yFrom, yTo := min z.yTo w }
  if c.xFrom < c.xTo ∧ c.yFrom < c.yTo then some c else none

/-- A scan of a known tag (R5): the clipped zones replace the record's; a changed list goes to the plan table. -/
def State.rescan (s : State) (sl : Slab) (d : ScanData) : State :=
  let zones := d.zones.filterMap fun z => zoneClip z sl.length sl.width
  let s := (s.putSlab { sl with zones := zones }).stockReport .updated sl.id
  if zones ≠ sl.zones ∧ (s.plan? sl.id).isSome then s.flawsChanged sl.id sl.zones zones else s

/-- A SCAN answer reaches the stock table (R3 to R5). The flag says whether the part answers ACK. -/
def State.scan (s : State) (address : Nat) (d : ScanData) : State × Bool :=
  if d.inRange then
    match s.slab? d.tag with
    | some sl => (s.rescan sl d, true)
    | none =>
      if s.stock.slabs.length < Config.maxSlabs then
        ((s.putSlab d.record).stockReport .created d.tag, true)
      else (s.raise .stockFull address, false)
  else (s, true)

/-! ### The unload sequence (R13, R16 to R18) -/

/-- The id after an id of the remnant range (R13). -/
def idAfter (n : Nat) : Nat := if n = Config.max32 then Config.firstRemnantId else n + 1

/-- The first id from `n` upward, wrapping, that no record holds; `fuel` bounds the search (R13). -/
def State.freeIdFrom (s : State) : Nat → Nat → Nat
  | 0, n => n
  | fuel + 1, n => if (s.slab? n).isSome then s.freeIdFrom fuel (idAfter n) else n

/-- The id the next remnant takes (R13). -/
def State.freeId (s : State) : Nat := s.freeIdFrom s.stock.slabs.length s.stock.nextId

/-- The rack slots that are occupied (R12). -/
def State.usedSlots (s : State) : List Nat := s.stock.slabs.filterMap fun sl => sl.remnant.map RemnantTag.slot

/-- The zones a remnant carries from the slab it was cut from (R18): those that overlap the region, clipped to it, with
its near edge moved to y = 0. -/
def carriedZones (sl : Slab) : List Zone :=
  let y0 := sl.geom.y0
  let y1 := sl.geom.y0 + sl.geom.wr
  let region : Rect := { x0 := 0, x1 := sl.length, y0 := y0, y1 := y1 }
  (sl.zones.filter region.overlaps).map fun z =>
    { z with xTo := min z.xTo sl.length, yFrom := max z.yFrom y0 - y0, yTo := min z.yTo y1 - y0 }

/-- Creates the remnant of an unloaded slab in a rack slot (R18). Its width is the rip front's, also where the minimum width
of R15 lets it fall below the 300 mm of R1's table (log entry 26). -/
def State.createRemnant (s : State) (sl : Slab) (slot : Nat) : State :=
  let id := s.freeId
  let r : Slab :=
    { id := id, lot := sl.lot, length := sl.length, width := sl.geom.wr, thickness := sl.thickness, basis := sl.basis,
      state := .stocked, remnant := some { parent := sl.id, slot := slot }, zones := carriedZones sl,
      geom := Geometry.uncut sl.geom.wr }
  let s := s.putSlab r
  let s := s.setStock { s.stock with nextId := idAfter id, recency := id :: s.stock.recency }
  s.stockReport .remnantCreated id

/-- The remnant to evict (R17): the STOCKED one farthest from the head of the recency order. -/
def State.evictable (s : State) : Option Slab :=
  (s.stock.recency.reverse.filterMap s.slab?).find? fun sl => sl.isStocked && sl.remnant.isSome

/-- Evicts a remnant (R17): removed, charged to job 0, REMNANT_SCRAPPED raised, reported. -/
def State.evict (s : State) (sl : Slab) : State :=
  let s := s.dropSlab sl.id
  let s := s.chargeStone 0 (sl.length * sl.width) (sl.basis.getD 0)
  let s := s.raise .remnantScrapped sl.id
  s.stockReport .remnantScrapped sl.id

/-- The scrap charge of an unload (R18, R88): none for a scrap of 0. -/
def State.chargeScrap (s : State) (sl : Slab) (job scrap : Nat) : State :=
  if scrap = 0 then s else s.chargeStone job scrap (sl.basis.getD 0)

/-- The strip scrap of a slab (R16). -/
def stripScrap (sl : Slab) : Nat := (sl.geom.strips.map fun st => st.remaining * st.width).sum

/-- The unload sequence for a slab and the unload job (R16 to R18). -/
def State.unloadSequence (s : State) (sl : Slab) (job : Nat) : State :=
  let s := (s.dropSlab sl.id).stockReport .removed sl.id
  let scrap := stripScrap sl
  let region := sl.geom.wr * sl.length
  if s.stock.minWidth ≤ sl.geom.wr ∧ s.stock.minLength ≤ sl.length then
    match lowestFree s.usedSlots Config.rackSlots with
    | some slot => (s.createRemnant sl slot).chargeScrap sl job scrap
    | none =>
      match s.evictable with
      | some e => ((s.evict e).createRemnant sl ((e.remnant.map RemnantTag.slot).getD 0)).chargeScrap sl job scrap
      | none => (s.raise .remnantScrapped sl.id).chargeScrap sl job (scrap + region)
  else s.chargeScrap sl job (scrap + region)

end Sys2Proof.Machine
end

