-- ==== Sys2Proof/Machine/FloorLink.lean ====
section
/-! DEFINITION. The floor line's events (spec/07 R132, R137, R139, R140, R142; spec/10 R183): frames beginning, frames sent,
windows running out, silence, bad frames, and the seven kinds of good frame from a station. -/

namespace Sys2Proof.Machine

/-- A start byte on the floor line while the port hunts (R183): a frame begins, inside an open response window or not
(log entry 22). -/
def State.floorFrameBegins (s : State) : State :=
  match s.line.receiving with
  | some _ => s
  | none =>
    let inWindow := match s.line.holder with
      | .tx t => t.phase == .window false
      | .slot _ expired => !expired
      | .free | .frame => false
    s.setLine { s.line with receiving := some inWindow }

/-- FLOOR_FRAME_BEGIN (R183). -/
def execFloorFrameBegin (s : State) : Host.Outcome State Fault Refusal := .next s.settle.floorFrameBegins.finish

/-- The frame the part was sending has gone (R132, R140, R142): a transaction's response window opens, its ACK or NAK ends it
with all that comes of its answer (log entry 8), or the first slot of a broadcast opens. -/
def State.floorFrameGone (s : State) : State :=
  match s.line.out, s.line.holder with
  | some _, .tx t =>
    match t.phase with
    | .sending => s.setLine { s.line with holder := .tx { t with phase := .window false }, out := none }
    | .closing o => s.txClosed t o
    | .window _ => s
  | some _, .frame => s.nextSlot
  | _, _ => s

/-- FLOOR_FRAME_SENT (R132, R142). -/
def execFloorFrameSent (s : State) : Host.Outcome State Fault Refusal := .next s.settle.floorFrameGone.finish

/-- A response window or a slot has run out (R132, R142): the transaction ends as failed or the slot is missed, unless a
frame that began inside it is still coming in (R183). -/
def State.windowExpires (s : State) : State :=
  match s.line.holder with
  | .tx t =>
    if t.phase = .window false then
      if s.line.receiving = some true then s.setLine { s.line with holder := .tx { t with phase := .window true } }
      else s.txFailed t
    else s
  | .slot r false =>
    if s.line.receiving = some true then s.setLine { s.line with holder := .slot r true } else s.slotMissed r
  | .slot _ true | .free | .frame => s

/-- RESPONSE_WINDOW_EXPIRED (R132, R142) (log entry 16). -/
def execResponseWindowExpired (s : State) : Host.Outcome State Fault Refusal := .next s.settle.windowExpires.finish

/-- FLOOR_LINE_SILENCE (R183): a frame cut off has bad framing. -/
def execFloorLineSilence (s : State) : Host.Outcome State Fault Refusal := .next s.settle.badFrame.finish

/-- BAD_FLOOR_FRAME (R132, R142, R183). -/
def execBadFloorFrame (s : State) : Host.Outcome State Fault Refusal := .next s.settle.badFrame.finish

/-- A good frame from an address has come in (R132, R142): as the reply of the open transaction it goes to `onReply`; in a
broadcast slot to `onSlot`. -/
def State.goodFrame (s : State) (address : Nat) (onReply : Tx → State → State) (onSlot : SlotRef → State → State) :
    State :=
  match s.arrival address with
  | .nothing => s
  | .discarded => s.hunt
  | .foreign t => s.hunt.foreignFrame t
  | .reply t => onReply t s.hunt
  | .inSlot r => onSlot r s.hunt

/-- A frame in a slot that is not the slot's own ACK (R142). -/
def notAck (address : Nat) (r : SlotRef) (s : State) : State := s.slotOther r address

/-- FLOOR_ACK (R137, R142, R143). -/
def execFloorAck (address : Nat) (s : State) : Host.Outcome State Fault Refusal :=
  .next (s.settle.goodFrame address (fun t s => s.txAcked t)
    (fun r s => if address = r.address then s.slotAcked r else s.slotOther r address)).finish

/-- FLOOR_NAK (R133, R137, R142, R143). -/
def execFloorNak (address : Nat) (s : State) : Host.Outcome State Fault Refusal :=
  .next (s.settle.goodFrame address (fun t s => s.txNothing t) (notAck address)).finish

/-- NONE_ANSWER (R107, R137, R139). -/
def execNoneAnswer (address : Nat) (s : State) : Host.Outcome State Fault Refusal :=
  .next (s.settle.goodFrame address (fun t s => s.txNothing t) (notAck address)).finish

/-! ### Answers (R139, R140) -/

/-- Whether a transaction is a poll. -/
def TxKind.isPoll : TxKind → Bool
  | .scanPoll _ _ _ | .poll => true
  | .command | .retry _ => false

/-- The answer of a poll goes to the block that owns it by the station's kind as it stands, after the station is credited
(R133, R139). `pass` answers the state after the block has had it and whether the part ACKs; `o` is what the transaction
keeps for the scan engine until its end (log entry 8). -/
def State.answered (s : State) (t : Tx) (pass : State → State × Bool) (o : PollOutcome) : State :=
  if t.kind.isPoll then
    let (s, ack) := pass (s.creditStation t.address)
    s.closeTx t ack o
  else s.txOutOfPlace t

/-- A COMPLETION goes to the cutter bound to a CUTTER station; else it is ACKed and discarded (R66, R139). -/
def passCompletion (address : Nat) (m : Completion) (s : State) : State × Bool :=
  if s.stationIs address .cutter then
    match s.cutterAt address with
    | some c => (s.completion c m, true)
    | none => (s, true)
  else (s, true)

/-- COMPLETION_ANSWER (R66, R139). -/
def execCompletionAnswer (address cutId slab number ending pieces travel elapsed litres : Nat) (lengths : List Nat)
    (s : State) : Host.Outcome State Fault Refusal :=
  let m : Completion :=
    { echo := ⟨cutId, slab, number⟩, ending := cutEndOf ending, pieces := pieces, travel := travel, elapsed := elapsed,
      litres := litres, lengths := lengths }
  .next (s.settle.goodFrame address (fun t s => s.answered t (passCompletion address m) .unanswered)
    (notAck address)).finish

/-- A SCAN goes to the stock table from a READER; else it is ACKed and discarded (R3, R139). -/
def passScan (address : Nat) (d : ScanData) (s : State) : State × Bool :=
  if s.stationIs address .reader then s.scan address d else (s, true)

/-- SCAN_ANSWER (R3, R139). -/
def execScanAnswer (address tag lot length width thickness : Nat) (zones : List Zone) (s : State) :
    Host.Outcome State Fault Refusal :=
  .next (s.settle.goodFrame address
    (fun t s => s.answered t (passScan address ⟨tag, lot, length, width, thickness, zones⟩) .unanswered)
    (notAck address)).finish

/-- VALUE_ANSWER (R107, R139, R140): it is ACKed, and the water monitor has it when the transaction ends (log entries 8,
20). -/
def execValueAnswer (address index : Nat) (valid : Bool) (value : Nat) (s : State) : Host.Outcome State Fault Refusal :=
  .next (s.settle.goodFrame address
    (fun t s => s.answered t (fun s => (s, true)) (.value index valid value)) (notAck address)).finish

end Sys2Proof.Machine
end

