-- ==== Sys2Proof/Machine/Handler.lean ====
section
/-! DEFINITION. The request handler's steps and items (spec/08): beginning a frame (R150, R154), an item that cannot be read
(R151), the context items (R156, R157), the origin table and the open level (R161 to R163). -/

namespace Sys2Proof.Machine

/-- TAKE_FRAME (R150, R154): with no frame in hand, the oldest received frame is begun; when its origin is out of range or
undefined, every item is answered DENIED and the REPLY is queued at once. -/
def State.takeFrame (s : State) : State :=
  match s.handler.inHand, s.office.received with
  | none, f :: rest =>
    let s := s.setOffice { s.office with received := rest }
    if f.origin ≤ 15 ∧ (s.origin? f.origin).isSome then
      s.setHandler { s.handler with
        inHand := some { origin := f.origin, tag := f.tag, items := f.items, results := [] } }
    else s.endFrame f.origin f.tag (f.items.map fun _ => ⟨.denied, []⟩)
  | _, _ => s

def execTakeFrame (s : State) : Host.Outcome State Fault Refusal := .next s.settle.takeFrame.finish

/-- BAD_ITEM (R151 check 1): the next item of the frame in hand spells no item, and is refused. -/
def State.refuseBadItem (s : State) : State :=
  match s.handler.inHand with
  | none => s
  | some h => match h.items with
    | [] => s
    | raw :: rest => if decodeItem raw = none then s.answerItem h rest ⟨.badItem, []⟩ else s

def execBadItem (s : State) : Host.Outcome State Fault Refusal := .next s.settle.refuseBadItem.finish

/-- A context item that is taken writes the origin's context and returns its three fields (R156, R157). -/
def setContext (o : Origin) (c : Context) (s : State) : Owned := .okWith c.bytes (s.putOrigin { o with ctx := c })

/-- USE JOB (R156). -/
def useJobItem (job : Option Nat) (o : Origin) (s : State) : Owned :=
  ensure (inRange jobRange job) .badValue (setContext o { o.ctx with job := job } s)
def execUseJob (job : Option Nat) (s : State) : Host.Outcome State Fault Refusal :=
  .next (s.itemStep (.useJob job) .context (useJobItem job))

/-- USE CUTTER (R156). -/
def useCutterItem (number : Option Nat) (o : Origin) (s : State) : Owned :=
  ensure (inRange cutterRange number) .badValue (setContext o { o.ctx with onCutter := number } s)
def execUseCutter (number : Option Nat) (s : State) : Host.Outcome State Fault Refusal :=
  .next (s.itemStep (.useCutter number) .context (useCutterItem number))

/-- USE SLAB (R156). -/
def useSlabItem (slab : Option Nat) (o : Origin) (s : State) : Owned :=
  ensure (inRange slabRange slab) .badValue (setContext o { o.ctx with slab := slab } s)
def execUseSlab (slab : Option Nat) (s : State) : Host.Outcome State Fault Refusal :=
  .next (s.itemStep (.useSlab slab) .context (useSlabItem slab))

/-- CONTEXT CLEAR (R157). -/
def contextClearItem (o : Origin) (s : State) : Owned := setContext o Context.empty s
def execContextClear (s : State) : Host.Outcome State Fault Refusal :=
  .next (s.itemStep .contextClear .context contextClearItem)

/-- The record ORIGIN leaves (R161): a new one with its context absent, or the one that stands with its class and areas
replaced. -/
def State.originAfter (s : State) (number cls areas : Nat) : Origin :=
  match s.origin? number with
  | none => { number := number, cls := cls, areas := BitVec.ofNat 8 areas, ctx := Context.empty }
  | some o => { o with cls := cls, areas := BitVec.ofNat 8 areas }

/-- ORIGIN (R161). -/
def originItem (number cls areas : Nat) (_ : Origin) (s : State) : Owned :=
  let r := s.originAfter number cls areas
  ensure (decide (number ≤ 15) && decide (cls ≤ 3)) .badValue
    (ensure (keepsTable (s.putOrigin r).handler.origins) .wrongState (.okWith r.bytes (s.putOrigin r)))
def execOrigin (number cls areas : Nat) (s : State) : Host.Outcome State Fault Refusal :=
  .next (s.itemStep (.origin number cls areas) .table (originItem number cls areas))

/-- ORIGIN with the remove mark (R162). -/
def originRemoveItem (number : Nat) (_ : Origin) (s : State) : Owned :=
  let left := remove Origin.number number s.handler.origins
  ensure (decide (number ≤ 15)) .badValue
    (need (s.origin? number) .noSuch fun _ =>
      ensure (keepsTable left) .wrongState (.ok (s.setHandler { s.handler with origins := left })))
def execOriginRemove (number : Nat) (s : State) : Host.Outcome State Fault Refusal :=
  .next (s.itemStep (.originRemove number) .table (originRemoveItem number))

/-- OPEN LEVEL (R163). -/
def openLevelItem (level : Nat) (_ : Origin) (s : State) : Owned :=
  ensure (decide (level ≤ 3)) .badValue (.ok (s.setHandler { s.handler with openLevel := level }))
def execOpenLevel (level : Nat) (s : State) : Host.Outcome State Fault Refusal :=
  .next (s.itemStep (.openLevel level) .table (openLevelItem level))

end Sys2Proof.Machine
end

