-- ==== Sys2Proof/Machine/Jobs.lean ====
section
/-! DEFINITION. The job items (spec/04): JOB OPEN (R77), JOB QUOTE (R78), JOB CLOSE (R79), SHOP RATES (R80), READ JOB
(R94). -/

namespace Sys2Proof.Machine

/-- JOB OPEN (R77). -/
def jobOpenItem (job quote : Option Nat) (o : Origin) (s : State) : Owned :=
  needJob job o.ctx (inRange (within 1 Config.max32) quote) fun n =>
    ensure (!s.jobOpen n) .wrongState (.ok (s.putJob { Job.fresh n .opened with quote := quote }))
def execJobOpen (job quote : Option Nat) (s : State) : Host.Outcome State Fault Refusal :=
  .next (s.itemStep (.jobOpen job quote) .job (jobOpenItem job quote))

/-- A job with its quote set or removed (R78): the OVER_QUOTE mark says whether the total has reached the new quote. -/
def Job.quoted (j : Job) (quote : Option Nat) : Job :=
  { j with quote := quote, overQuote := quote.any fun q => decide (q ≤ j.total) }

/-- The state after a JOB QUOTE that is taken (R78): JOB_OVER_QUOTE is raised when the mark goes from cleared to set. -/
def State.requote (s : State) (n : Nat) (quote : Option Nat) : State :=
  let j := s.job n
  let k := j.quoted quote
  let s := s.putJob k
  if k.overQuote && !j.overQuote then s.raise .jobOverQuote n else s

/-- JOB QUOTE (R78). -/
def jobQuoteItem (job quote : Option Nat) (o : Origin) (s : State) : Owned :=
  needJob job o.ctx (inRange (within 1 Config.max32) quote) fun n =>
    ensure (s.jobOpen n) .jobClosed (.ok (s.requote n quote))
def execJobQuote (job quote : Option Nat) (s : State) : Host.Outcome State Fault Refusal :=
  .next (s.itemStep (.jobQuote job quote) .job (jobQuoteItem job quote))

/-- A step that holds up JOB CLOSE (R79). -/
def Step.holdsJob (st : Step) (n : Nat) : Bool := st.job == n && (st.state == .issued || st.state == .unresolved)

/-- JOB CLOSE (R79), its checks in the order of its table. -/
def jobCloseItem (job : Option Nat) (o : Origin) (s : State) : Owned :=
  needJob job o.ctx true fun n =>
    ensure (n != 0) .wrongState
      (ensure (s.jobOpen n) .jobClosed
        (ensure (!s.stock.slabs.any fun sl => sl.state.job == some n) .wrongState
          (ensure (!s.plans.plans.any fun p => p.steps.any fun st => st.holdsJob n) .wrongState
            (.ok (s.putJob { s.job n with state := .closed })))))
def execJobClose (job : Option Nat) (s : State) : Host.Outcome State Fault Refusal :=
  .next (s.itemStep (.jobClose job) .job (jobCloseItem job))

/-- SHOP RATES (R80). -/
def shopRatesItem (loop fresh : Nat) (_ : Origin) (s : State) : Owned :=
  ensure (within 0 100000 loop && within 0 100000 fresh) .badValue
    (.ok (s.setCost { s.cost with loopRate := loop, freshRate := fresh }))
def execShopRates (loop fresh : Nat) (s : State) : Host.Outcome State Fault Refusal :=
  .next (s.itemStep (.shopRates loop fresh) .job (shopRatesItem loop fresh))

/-- The unit cost of a job (R94): absent while its pieces count is 0. -/
def Job.unitCost (j : Job) : Option Nat := if j.pieces = 0 then none else some (j.total / j.pieces)

/-- READ JOB (R94). -/
def readJobItem (job : Option Nat) (o : Origin) (s : State) : Owned :=
  needJob job o.ctx true fun n => .okWith ((s.job n).bytes (s.job n).unitCost) s
def execReadJob (job : Option Nat) (s : State) : Host.Outcome State Fault Refusal :=
  .next (s.itemStep (.readJob job) .read (readJobItem job))

end Sys2Proof.Machine
end

