-- ==== Sys2Proof/Machine/OfficeLink.lean ====
section
/-! DEFINITION. The office port's events (spec/08 R148, R149, R160; spec/10 R181). -/

namespace Sys2Proof.Machine

/-- The office port's receiver goes over to another condition. -/
def State.setReceiver (s : State) (r : Receiver) : State := s.setOffice { s.office with receiver := r }

/-- A start byte (R148, R181): while hunting it begins a frame, in a slot when one is free; inside a frame it is part of
the frame. -/
def State.frameBegins (s : State) : State :=
  match s.office.receiver with
  | .hunting => s.setReceiver (.header s.readyLine)
  | .header _ | .body _ _ => s

/-- OFFICE_FRAME_BEGIN (R148, R181). -/
def execOfficeFrameBegin (s : State) : Host.Outcome State Fault Refusal := .next s.settle.frameBegins.finish

/-- The 7 header bytes have come (R181): a body of more than 4,096 bytes cuts the frame off at its last header byte, also
where the frame has no slot (log entry 35). -/
def State.headerArrives (s : State) (header : List Byte) : State :=
  match s.office.receiver with
  | .header slot =>
    if header.length = 7 then
      if Config.maxBody < headerLength header then s.setReceiver .hunting else s.setReceiver (.body slot header)
    else s
  | .hunting | .body _ _ => s

/-- OFFICE_HEADER_ARRIVED (R181). -/
def execOfficeHeaderArrived (header : List Byte) (s : State) : Host.Outcome State Fault Refusal :=
  .next (s.settle.headerArrives header).finish

/-- The body and the check have come (R149, R181): a frame in a slot that passes every check is received; any other is
discarded. Bytes that are not as many as the header gives are no whole frame, and nothing has arrived in full. -/
def State.frameArrives (s : State) (rest : List Byte) : State :=
  match s.office.receiver with
  | .body slot header =>
    if rest.length = headerLength header + 2 then
      let s := s.setReceiver .hunting
      match slot, decodeRequest header rest with
      | true, some (origin, tag, items) =>
        s.setOffice { s.office with received := s.office.received ++ [{ origin := origin, tag := tag, items := items }] }
      | _, _ => s
    else s
  | .hunting | .header _ => s

/-- OFFICE_FRAME_ARRIVED (R149). -/
def execOfficeFrameArrived (rest : List Byte) (s : State) : Host.Outcome State Fault Refusal :=
  .next (s.settle.frameArrives rest).finish

/-- OFFICE_LINK_SILENCE (R181): a frame not yet arrived in full is cut off and discarded. -/
def execOfficeLinkSilence (s : State) : Host.Outcome State Fault Refusal :=
  .next (s.settle.setReceiver .hunting).finish

/-- FRAME_SENT (R160): the frame on the office link has left; a REPLY frees its slot. -/
def execFrameSent (s : State) : Host.Outcome State Fault Refusal :=
  .next (let t := s.settle; t.setOffice { t.office with sending := none }).finish

end Sys2Proof.Machine
end

