-- ==== Sys2Proof/Machine/PlanItems.lean ====
section
/-! DEFINITION. The plan items (spec/02): PLAN LOAD (R36), PLAN CLEAR (R37), SKIP (R38), VERDICT (R39, R40), TOLERANCE
(R41), READ PLAN (R42). -/

namespace Sys2Proof.Machine

/-! ### PLAN LOAD -/

/-- The job of a step entry: its own, or the context's when it carries 255 (R36, R182). -/
def stepJob (r : RawStep) (ctx : Context) : Option Nat := if r.job = 255 then ctx.job else some r.job

/-- The end a step entry names. -/
def sideOf (n : Nat) : Option Side := if n = 1 then some .near else if n = 2 then some .far else none

/-- The fields of a step entry's kind, when each lies in its range and each field that the kind does not use holds the
value R182 gives for it (R20, R36). -/
def stepCut (r : RawStep) : Option StepCut :=
  if r.kind = 1 then
    if r.strip = 0 ∧ r.side = 0 ∧ r.count = 1 ∧ within 1 2100 r.length ∧ r.piece = 0 then some (.rip r.length) else none
  else if r.kind = 2 then
    (sideOf r.side).bind fun side =>
      if within 1 12 r.strip ∧ r.count = 1 ∧ within 1 3600 r.length ∧ 1 ≤ r.piece ∧ r.piece ≤ Config.max32 then
        some (.cross side r.length r.piece)
      else none
  else if r.kind = 3 then
    (sideOf r.side).bind fun side =>
      if within 1 12 r.strip ∧ within 1 8 r.count ∧ within 1 3600 r.length ∧ 1 ≤ r.piece ∧
          r.piece + r.count - 1 ≤ Config.max32 then
        some (.series side r.length r.count r.piece)
      else none
  else none

/-- The step records of a step list (R20, R36), numbered from `n` on, after `rips` RIP steps; none when some field is
out of range. -/
def loadSteps (ctx : Context) : Nat → Nat → List RawStep → Option (List Step)
  | _, _, [] => some []
  | n, rips, r :: rs =>
    (stepJob r ctx).bind fun job =>
      (stepCut r).bind fun cut =>
        let rips' := if r.kind = 1 then rips + 1 else rips
        (loadSteps ctx (n + 1) rips' rs).map fun l =>
          { number := n, job := job, strip := if r.kind = 1 then rips' else r.strip, cut := cut, state := .pending,
            accepted := false, done := 0, stored := [], planned := none } :: l

/-- The step list of PLAN LOAD in range: 1 to 40 steps, at most 12 RIP steps, every job 0 to 63, every field in range. -/
def loadedSteps (ctx : Context) (steps : List RawStep) : Option (List Step) :=
  if 1 ≤ steps.length ∧ steps.length ≤ 40 ∧ (steps.filter fun r => r.kind == 1).length ≤ 12 ∧
      steps.all (fun r => inRange jobRange (stepJob r ctx)) then
    loadSteps ctx 1 0 steps
  else none

/-- Whether a plan holds a step that keeps it from being replaced or removed (R36, R37). -/
def Plan.begun (p : Plan) : Bool := p.steps.any fun st => st.state.started

/-- The number of steps of a slab's plan in a state. -/
def State.stepCount (s : State) (slab : Nat) (state : StepState) : Nat :=
  (((s.plan? slab).map Plan.steps).getD []).countP fun st => st.state == state

/-- PLAN LOAD (R36), its checks in the order of its table. -/
def planLoadItem (slab : Option Nat) (kerf : Nat) (steps : List RawStep) (o : Origin) (s : State) : Owned :=
  need (orContext slab o.ctx.slab) .noContext fun id =>
    ensure (steps.all fun r => (stepJob r o.ctx).isSome) .noContext
      (ensure (within 1 10 kerf) .badValue
        (need (loadedSteps o.ctx steps) .badValue fun l =>
          need (s.slab? id) .noSuch fun sl =>
            ensure (!sl.isStocked) .wrongState
              (ensure (!(s.plan? id).any Plan.begun) .wrongState
                (ensure (l.all fun st => s.jobOpen st.job) .jobClosed
                  (ensure ((s.plan? id).isSome || decide (s.plans.plans.length < Config.maxPlans)) .full
                    (let t := (s.putPlan { slab := id, loadKerf := kerf, steps := l }).project id
                     .okWith (be1 (t.stepCount id .flagged) ++ be1 (t.stepCount id .blocked)) t))))))
def execPlanLoad (slab : Option Nat) (kerf : Nat) (steps : List RawStep) (s : State) :
    Host.Outcome State Fault Refusal :=
  .next (s.itemStep (.planLoad slab kerf steps) .plan (planLoadItem slab kerf steps))

/-- PLAN CLEAR (R37). -/
def planClearItem (slab : Option Nat) (o : Origin) (s : State) : Owned :=
  needSlab s slab o.ctx true fun sl =>
    need (s.plan? sl.id) .noSuch fun p => ensure (!p.begun) .wrongState (.ok (s.dropPlan sl.id))
def execPlanClear (slab : Option Nat) (s : State) : Host.Outcome State Fault Refusal :=
  .next (s.itemStep (.planClear slab) .plan (planClearItem slab))

/-! ### SKIP and VERDICT -/

/-- Whether SKIP takes a step (R38). -/
def StepState.skippable : StepState → Bool
  | .pending | .flagged | .blocked => true
  | .partly | .issued | .unresolved | .done | .skipped => false

/-- The state after a step is given up (R38, R39, R40): SKIPPED, and the projection runs. -/
def State.skipStep (s : State) (slab number : Nat) : State :=
  (s.changeStep slab number fun st => { st with state := .skipped }).project slab

/-- SKIP (R38). -/
def skipItem (slab : Option Nat) (number : Nat) (o : Origin) (s : State) : Owned :=
  needSlab s slab o.ctx (stepRange number) fun sl =>
    need (s.plan? sl.id) .noSuch fun p =>
      need (p.step? number) .noSuch fun st =>
        ensure st.state.skippable .wrongState (.ok (s.skipStep sl.id number))
def execSkip (slab : Option Nat) (number : Nat) (s : State) : Host.Outcome State Fault Refusal :=
  .next (s.itemStep (.skip slab number) .plan (skipItem slab number))

/-- ACCEPT on a FLAGGED step (R39): the accepted-flaw mark is set, the step is open again, the projection runs. -/
def State.acceptFlaw (s : State) (slab number : Nat) : State :=
  (s.changeStep slab number fun st => { st with state := st.openState, accepted := true }).project slab

/-- ACCEPT on an UNRESOLVED step (R40): its remaining pieces are applied as a DONE completion without measured lengths,
and the accepted-step charge is added to the step's job (R81, R87). -/
def State.acceptUnresolved (s : State) (slab : Nat) (st : Step) : State :=
  let (s, h) := s.applyCompletion slab st.number .done 0 []
  s.addCharge st.job
    { material := materialCharge h.area (s.basisOf slab), tool := 0, water := 0, time := 0, pieces := h.pieces,
      flawed := h.flawed, outOfTol := h.outOfTol }

/-- A verdict 1 CLEAR, 2 ACCEPT or 3 REJECT (R179) on a step (R39, R40). CLEAR returns it to its open state. -/
def State.rule (s : State) (slab : Nat) (st : Step) (ruling : Nat) : State :=
  if ruling = 1 then s.giveBack slab st.number
  else if ruling = 2 then
    if st.state = .unresolved then s.acceptUnresolved slab st else s.acceptFlaw slab st.number
  else s.skipStep slab st.number

/-- VERDICT (R39, R40). -/
def verdictItem (slab : Option Nat) (number ruling : Nat) (o : Origin) (s : State) : Owned :=
  needSlab s slab o.ctx (stepRange number && within 1 3 ruling) fun sl =>
    need (s.plan? sl.id) .noSuch fun p =>
      need (p.step? number) .noSuch fun st =>
        ensure (st.state == .flagged || st.state == .unresolved) .notFlagged (.ok (s.rule sl.id st ruling))
def execVerdict (slab : Option Nat) (number ruling : Nat) (s : State) : Host.Outcome State Fault Refusal :=
  .next (s.itemStep (.verdict slab number ruling) .plan (verdictItem slab number ruling))

/-- TOLERANCE (R41). -/
def toleranceItem (mm : Nat) (_ : Origin) (s : State) : Owned :=
  ensure (decide (mm ≤ 20)) .badValue (.ok (s.setPlans { s.plans with tolerance := mm }))
def execTolerance (mm : Nat) (s : State) : Host.Outcome State Fault Refusal :=
  .next (s.itemStep (.tolerance mm) .plan (toleranceItem mm))

/-- READ PLAN (R42). -/
def readPlanItem (slab : Option Nat) (o : Origin) (s : State) : Owned :=
  needSlab s slab o.ctx true fun sl =>
    need (s.plan? sl.id) .noSuch fun p => .okWith (p.bytes (s.kerfInUse sl p)) s
def execReadPlan (slab : Option Nat) (s : State) : Host.Outcome State Fault Refusal :=
  .next (s.itemStep (.readPlan slab) .read (readPlanItem slab))

end Sys2Proof.Machine
end

