-- ==== Sys2Proof/Machine/TimeBase.lean ====
section
/-! DEFINITION. Power-on, the second, and the steps that take what a second or a transaction has left due: CUT_TIMEOUT
(R65), CHANNEL_ENTERS_STALE (R100), SCAN_PASS_DUE (R105), READER_POLL_DUE (R135), START_FAILURE (R63), ABORT_FAILURE
(R74), CUTTER_UNREACHABLE (R71). Each of these takes the one thing it names, when it is due, before whatever else is due
(log entry 2). -/

namespace Sys2Proof.Machine

/-- POWER_ON: every block at its power-on value. The queue of commands is the sender's and stays, and the counter of free
values goes on (log entries 1, 4). -/
def State.poweredOn (s : State) : State := (State.reset.setPending s.pending).setFreeCount s.freeCount

def execPowerOn (s : State) : Host.Outcome State Fault Refusal := .next s.poweredOn

/-- TIME_BASE_SECOND (R65, R100): what the second before left due is taken first. -/
def execTimeBaseSecond (s : State) : Host.Outcome State Fault Refusal := .next s.settle.tickSecond

/-- CUT_TIMEOUT (R65): the record whose timer has reached the limit. -/
def execCutTimeout (cutId : Nat) (s : State) : Host.Outcome State Fault Refusal :=
  .next (if s.timedOutIds.contains cutId then (s.timeOutId cutId).finish else s)

/-- CHANNEL_ENTERS_STALE (R100): a channel that the last second found past the limit. -/
def execChannelEntersStale (number : Nat) (s : State) : Host.Outcome State Fault Refusal :=
  .next (if s.water.staleDue.contains number then
      ((s.setWater { s.water with staleDue := s.water.staleDue.filter (· != number) }).staleId number).finish
    else s)

/-- SCAN_PASS_DUE (R105): the next pass of a CONTINUOUS run. -/
def execScanPassDue (s : State) : Host.Outcome State Fault Refusal :=
  .next (if s.passDue then s.startDuePass.finish else s)

/-- Whether a reader's next poll has come due (R135). -/
def State.readerDue (s : State) (address : Nat) : Bool :=
  (s.station? address).any fun st => st.kind == .reader && st.nextPoll.any fun t => reached s.seconds t

/-- READER_POLL_DUE (R134, R135): the demand appears, and the arbiter hands it the line when the line is free. -/
def execReaderPollDue (address : Nat) (s : State) : Host.Outcome State Fault Refusal :=
  .next (if s.readerDue address then s.finish else s)

/-- One report of the line port is taken out of those that stand and handled (log entry 3). -/
def State.takeOneReport (s : State) (r : LineReport) : State :=
  if s.line.reports.contains r then
    ((s.setLine { s.line with reports := s.line.reports.erase r }).takeReport r).finish
  else s

/-- START_FAILURE (R63). -/
def execStartFailure (onCutter cutId : Nat) (s : State) : Host.Outcome State Fault Refusal :=
  .next (s.takeOneReport (.startFailed onCutter cutId))

/-- ABORT_FAILURE (R74). -/
def execAbortFailure (onCutter : Nat) (s : State) : Host.Outcome State Fault Refusal :=
  .next (s.takeOneReport (.abortFailed onCutter))

/-- CUTTER_UNREACHABLE (R71). -/
def execCutterUnreachable (onCutter : Nat) (s : State) : Host.Outcome State Fault Refusal :=
  .next (s.takeOneReport (.unreachable onCutter))

end Sys2Proof.Machine
end

