-- ==== Sys2Proof/Machine/WaterItems.lean ====
section
/-! DEFINITION. The items of the water monitor and the water gate (spec/05, spec/06): the scan engine (R103, R104, R106),
channels (R96, R97, R99, R101), roles and marks (R113, R114), the office hold (R118), READ WATER (R165). -/

namespace Sys2Proof.Machine

/-! ### The scan engine -/

/-- SCAN LIST (R103). A number that appears twice is tested with the ranges, before a channel that is not defined and before
BUSY (log entry 30). -/
def scanListItem (numbers : List Nat) (_ : Origin) (s : State) : Owned :=
  ensure (within 1 16 numbers.length && numbers.all channelRange && decide numbers.Nodup) .badValue
    (ensure (numbers.all fun n => (s.channel? n).isSome) .noSuch
      (ensure s.water.engine.mode.isNone .busy
        (.ok (s.setEngine { s.water.engine with scanList := numbers, position := none }))))
def execScanList (numbers : List Nat) (s : State) : Host.Outcome State Fault Refusal :=
  .next (s.itemStep (.scanList numbers) .water (scanListItem numbers))

/-- The engine started in a mode (R104): RUNNING, its run number one higher, its first poll due. -/
def Engine.started (e : Engine) (mode : ScanMode) (single position lastPassEnd : Option Nat) : Engine :=
  { e with mode := some mode, single := single, position := position, run := (e.run + 1) % 256,
           lastPassEnd := lastPassEnd, due := true }

/-- SCAN START SINGLE (R104). An absent channel number is tested with the ranges, before BUSY (log entry 30). -/
def startSingle (number : Option Nat) (s : State) : Owned :=
  need number .badValue fun n =>
    ensure (channelRange n) .badValue
      (ensure (s.channel? n).isSome .noSuch
        (ensure s.water.engine.mode.isNone .busy
          (.ok (s.setEngine (s.water.engine.started .single (some n) none s.water.engine.lastPassEnd)))))

/-- SCAN START SWEEP and CONTINUOUS (R104); CONTINUOUS makes the last pass end absent. A channel number that is carried is
tested with the ranges, before BUSY (log entry 30). -/
def startPass (mode : ScanMode) (number : Option Nat) (s : State) : Owned :=
  ensure number.isNone .badValue
    (ensure s.water.engine.mode.isNone .busy
      (ensure (!s.water.engine.scanList.isEmpty) .wrongState
        (.ok (s.setEngine (s.water.engine.started mode none (some 1)
          (if mode = .continuous then none else s.water.engine.lastPassEnd))))))

/-- SCAN START, mode 1 SINGLE, 2 SWEEP, 3 CONTINUOUS (R104, R179). -/
def scanStartItem (mode : Nat) (number : Option Nat) (_ : Origin) (s : State) : Owned :=
  if mode = 1 then startSingle number s
  else if mode = 2 then startPass .sweep number s
  else if mode = 3 then startPass .continuous number s
  else .refused .badValue
def execScanStart (mode : Nat) (number : Option Nat) (s : State) : Host.Outcome State Fault Refusal :=
  .next (s.itemStep (.scanStart mode number) .water (scanStartItem mode number))

/-- SCAN STOP (R106). -/
def scanStopItem (_ : Origin) (s : State) : Owned :=
  .ok (if s.water.engine.mode.isNone then s else s.setEngine s.water.engine.stopped)
def execScanStop (s : State) : Host.Outcome State Fault Refusal := .next (s.itemStep .scanStop .water scanStopItem)

/-! ### Channels -/

/-- The low limit does not exceed the high limit when both are given (R96, R99). -/
def ordered (low high : Option Nat) : Bool := low.all fun l => high.all fun h => decide (l ≤ h)
/-- Both limits lie in a kind's value range. -/
def ChannelKind.admits (k : ChannelKind) (low high : Option Nat) : Bool :=
  inRange (within 0 k.maxValue) low && inRange (within 0 k.maxValue) high
/-- A channel kind by its number on the wire (R179). -/
def channelKindOf (n : Nat) : Option ChannelKind :=
  if n = 1 then some .level else if n = 2 then some .turbidity else if n = 3 then some .flow else none

/-- CHANNEL LIMITS (R99). A limit is held against the kind of the channel the number names (log entry 19). -/
def channelLimitsItem (number : Nat) (low high : Option Nat) (_ : Origin) (s : State) : Owned :=
  ensure (channelRange number && ordered low high && (s.channel? number).all fun ch => ch.kind.admits low high) .badValue
    (need (s.channel? number) .noSuch fun ch => .ok (s.recompare { ch with low := low, high := high }))
def execChannelLimits (number : Nat) (low high : Option Nat) (s : State) : Host.Outcome State Fault Refusal :=
  .next (s.itemStep (.channelLimits number low high) .water (channelLimitsItem number low high))

/-- A channel as CHANNEL creates it, or as it leaves one whose sensor changes (R96). -/
def Channel.fresh (number address index : Nat) (kind : ChannelKind) (low high : Option Nat) : Channel :=
  { number := number, address := address, index := index, kind := kind, low := low, high := high, reading := none,
    compare := .none, stale := true, fault := false }

/-- The state after a CHANNEL that is taken (R96): created; the same sensor with new limits, compared again; or a new
sensor, which begins a stale episode when the stale mark was cleared. -/
def State.defineChannel (s : State) (number address index : Nat) (kind : ChannelKind) (low high : Option Nat) : State :=
  let fresh := Channel.fresh number address index kind low high
  match s.channel? number with
  | none => s.putChannel fresh
  | some ch =>
    if ch.address = address ∧ ch.index = index ∧ ch.kind = kind then s.recompare { ch with low := low, high := high }
    else if ch.stale then s.putChannel fresh
    else s.enterStale fresh

/-- CHANNEL (R96). The order of the limits and a sensor that another channel has are tested with the ranges, before the node
that must stand at the address (log entry 30). -/
def channelItem (number address index kind : Nat) (low high : Option Nat) (_ : Origin) (s : State) : Owned :=
  need (channelKindOf kind) .badValue fun kind =>
    ensure (channelRange number && addressRange address && within 0 3 index && kind.admits low high && ordered low high &&
        !(s.water.channels.any fun ch => ch.address == address && ch.index == index && ch.number != number)) .badValue
      (ensure (s.stationIs address .node) .noSuch
        (ensure (!s.water.engine.scans number) .busy
          (ensure ((s.gate.roleOf number).isNone || (s.channel? number).all fun ch => ch.kind == kind) .wrongState
            (.ok (s.defineChannel number address index kind low high)))))
def execChannel (number address index kind : Nat) (low high : Option Nat) (s : State) :
    Host.Outcome State Fault Refusal :=
  .next (s.itemStep (.channel number address index kind low high) .table
    (channelItem number address index kind low high))

/-- CHANNEL with the remove mark (R97). -/
def channelRemoveItem (number : Nat) (_ : Origin) (s : State) : Owned :=
  ensure (channelRange number) .badValue
    (ensure (s.channel? number).isSome .noSuch
      (ensure (!s.water.engine.scans number) .busy
        (ensure (!s.water.engine.scanList.contains number && (s.gate.roleOf number).isNone) .wrongState
          (.ok (s.setWater { s.water with channels := remove Channel.number number s.water.channels })))))
def execChannelRemove (number : Nat) (s : State) : Host.Outcome State Fault Refusal :=
  .next (s.itemStep (.channelRemove number) .table (channelRemoveItem number))

/-- What READ CHANNEL returns beside the record (R101): age, role, scan list, poll in flight in the current run. -/
def State.channelBytes (s : State) (ch : Channel) : List Byte :=
  ch.bytes (ch.reading.map fun r => secondsSince s.seconds r.time) (s.gate.roleOf ch.number)
    (s.water.engine.scanList.contains ch.number)
    (s.water.engine.flightIsCurrent && s.water.engine.inFlight.any fun p => p.number == ch.number)

/-- READ CHANNEL (R101). -/
def readChannelItem (number : Nat) (_ : Origin) (s : State) : Owned :=
  ensure (channelRange number) .badValue (need (s.channel? number) .noSuch fun ch => .okWith (s.channelBytes ch) s)
def execReadChannel (number : Nat) (s : State) : Host.Outcome State Fault Refusal :=
  .next (s.itemStep (.readChannel number) .read (readChannelItem number))

/-! ### The water gate -/

/-- A role's channel, when named, is of the kind the role admits (R112, R113). -/
def State.roleKind (s : State) (role : Option Nat) (k : ChannelKind) : Bool :=
  role.all fun n => (s.channel? n).any fun ch => ch.kind == k

/-- WATER ROLES (R113): the four roles replaced, the makeup reference time dropped when the makeup channel changes, then
the latch by the item rule, line hold, and one re-evaluation. -/
def State.setRoles (s : State) (level turbidity returnFlow makeup : Option Nat) : State :=
  (s.setGate { s.gate with
    level := level, turbidity := turbidity, returnFlow := returnFlow, makeup := makeup
    makeupRef := if makeup = s.gate.makeup then s.gate.makeupRef else none }).waterItem

/-- WATER ROLES (R113). A channel named for two roles is tested with the ranges, before a channel that is not defined (log
entry 30). -/
def waterRolesItem (level turbidity returnFlow makeup : Option Nat) (_ : Origin) (s : State) : Owned :=
  let named := [level, turbidity, returnFlow, makeup].filterMap id
  ensure (named.all channelRange && decide named.Nodup) .badValue
    (ensure (named.all fun n => (s.channel? n).isSome) .noSuch
      (ensure (s.roleKind level .level && s.roleKind turbidity .turbidity && s.roleKind returnFlow .flow &&
          s.roleKind makeup .flow) .wrongState
        (.ok (s.setRoles level turbidity returnFlow makeup))))
def execWaterRoles (level turbidity returnFlow makeup : Option Nat) (s : State) : Host.Outcome State Fault Refusal :=
  .next (s.itemStep (.waterRoles level turbidity returnFlow makeup) .water
    (waterRolesItem level turbidity returnFlow makeup))

/-- The five marks in range and in order (R114). -/
def Marks.admitted (m : Marks) : Bool :=
  within 0 65535 m.low && within 0 65535 m.critical && within 0 65535 m.resume && within 0 10000 m.turbLimit &&
    within 0 10000 m.turbCritical && decide (m.critical < m.resume) && decide (m.critical < m.low) &&
    decide (m.turbLimit ≤ m.turbCritical)

/-- WATER MARKS (R114). -/
def waterMarksItem (m : Marks) (_ : Origin) (s : State) : Owned :=
  ensure m.admitted .badValue (.ok (s.setGate { s.gate with marks := m }).waterItem)
def execWaterMarks (low critical resume turbLimit turbCritical : Nat) (s : State) :
    Host.Outcome State Fault Refusal :=
  .next (s.itemStep (.waterMarks low critical resume turbLimit turbCritical) .water
    (waterMarksItem ⟨low, critical, resume, turbLimit, turbCritical⟩))

/-- The office hold flag set or cleared, and line hold recomputed (R118). -/
def State.setOfficeHold (s : State) (on : Bool) : State :=
  (s.setGate { s.gate with officeHold := on }).recomputeHoldAndWalk

/-- LINE HOLD (R118). -/
def lineHoldItem (_ : Origin) (s : State) : Owned := .ok (s.setOfficeHold true)
def execLineHold (s : State) : Host.Outcome State Fault Refusal := .next (s.itemStep .lineHold .water lineHoldItem)

/-- LINE RELEASE (R118). -/
def lineReleaseItem (_ : Origin) (s : State) : Owned := .ok (s.setOfficeHold false)
def execLineRelease (s : State) : Host.Outcome State Fault Refusal :=
  .next (s.itemStep .lineRelease .water lineReleaseItem)

/-- READ WATER (R165). -/
def readWaterItem (_ : Origin) (s : State) : Owned := .okWith s.waterBytes s
def execReadWater (s : State) : Host.Outcome State Fault Refusal := .next (s.itemStep .readWater .read readWaterItem)

end Sys2Proof.Machine
end

