-- ==== Sys2Proof/Machine/Work.lean ====
section
/-! DEFINITION. The cutter controller's items (spec/03): LOAD (R51), UNLOAD (R52), TOOL CHANGE (R53), CLEAR FAULT (R54), CUT
with its record (R55, R59, R60), ABORT (R73), CUTTER and its removal (R48, R49), READ CUTTER (R50). -/

namespace Sys2Proof.Machine

/-! ### LOAD and UNLOAD -/

/-- The state after a LOAD that is taken (R11, R51): the cutter LOADED with the slab, the slab ON_BED, the projection run
with the cutter's kerf. -/
def State.loaded (s : State) (sl : Slab) (c : Cutter) (job : Nat) : State :=
  let s := s.putCutter { c with state := .loaded, slab := some sl.id }
  let s := s.putSlab { sl with state := .onBed job c.number }
  s.project sl.id

/-- LOAD (R51), its checks in the order of its table. -/
def loadItem (slab number job : Option Nat) (o : Origin) (s : State) : Owned :=
  need (orContext slab o.ctx.slab) .noContext fun id =>
    need (orContext number o.ctx.onCutter) .noContext fun n =>
      need (orContext job o.ctx.job) .noContext fun j =>
        ensure (cutterRange n && jobRange j) .badValue
          (need (s.cutter? n) .noSuch fun c =>
            need (s.slab? id) .noSuch fun sl =>
              ensure (c.state == .idle) .wrongState
                (ensure sl.isReserved .wrongState
                  (ensure (sl.state.job == some j) .wrongState (.ok (s.loaded sl c j)))))
def execLoad (slab number job : Option Nat) (s : State) : Host.Outcome State Fault Refusal :=
  .next (s.itemStep (.load slab number job) .work (loadItem slab number job))

/-- Whether UNLOAD counts a step as discarded (R52). -/
def StepState.discarded : StepState → Bool
  | .pending | .flagged | .blocked | .partly => true
  | .issued | .unresolved | .done | .skipped => false

/-- The steps of a slab's plan. -/
def State.stepsOf (s : State) (slab : Nat) : List Step := ((s.plan? slab).map Plan.steps).getD []

/-- The state after an UNLOAD that is taken (R52): the plan removed, the unload sequence, the cutter IDLE without a slab
and with its uncertain echo list emptied. -/
def State.unloaded (s : State) (c : Cutter) (slab : Nat) : State :=
  let s := s.dropPlan slab
  let s := match s.slab? slab with
    | none => s
    | some sl => s.unloadSequence sl (sl.state.job.getD 0)
  s.changeCutter c.number fun k => { k with state := .idle, slab := none, uncertain := [] }

/-- UNLOAD (R52). -/
def unloadItem (number : Option Nat) (o : Origin) (s : State) : Owned :=
  needCutter s number o.ctx fun c =>
    ensure (c.state == .loaded) .wrongState
      (let slab := c.slab.getD 0
       let steps := s.stepsOf slab
       ensure (!steps.any fun st => st.state == .unresolved) .stepUnresolved
        (.okWith (be1 (steps.countP fun st => st.state.discarded)) (s.unloaded c slab)))
def execUnload (number : Option Nat) (s : State) : Host.Outcome State Fault Refusal :=
  .next (s.itemStep (.unload number) .work (unloadItem number))

/-! ### TOOL CHANGE, CLEAR FAULT -/

/-- TOOL CHANGE (R53). -/
def toolChangeItem (number : Option Nat) (o : Origin) (s : State) : Owned :=
  needCutter s number o.ctx fun c =>
    ensure (c.state != .working) .wrongState (.ok (s.putCutter { c with life := c.settings.newLife }))
def execToolChange (number : Option Nat) (s : State) : Host.Outcome State Fault Refusal :=
  .next (s.itemStep (.toolChange number) .work (toolChangeItem number))

/-- CLEAR FAULT (R54). -/
def clearFaultItem (number : Option Nat) (o : Origin) (s : State) : Owned :=
  needCutter s number o.ctx fun c =>
    ensure (c.state == .faulted) .wrongState
      (.ok (s.putCutter { c with state := if c.slab.isSome then .loaded else .idle }))
def execClearFault (number : Option Nat) (s : State) : Host.Outcome State Fault Refusal :=
  .next (s.itemStep (.clearFault number) .work (clearFaultItem number))

/-! ### CUT -/

/-- The pool's ids after the last-assigned id in turn, wrapping from 15 to 0 (R55). -/
def idsAfter (last : Nat) : List Nat := (List.range Config.poolSize).map fun i => (last + 1 + i) % Config.poolSize

/-- The free ids of the pool, in the order it looks at them (R55). -/
def State.freeRecordIds (s : State) : List Nat := (idsAfter s.cutting.lastId).filter fun i => (s.record? i).isNone

/-- Whether the pool passes over an id for a cutter (R55). -/
def Cutter.echoes (c : Cutter) (id : Nat) : Bool :=
  c.lastTaken.any (fun e => e.cutId == id) || c.uncertain.any fun u => u.echo.cutId == id

/-- The id the pool chooses for a cutter (R55); none when no record is free. -/
def State.poolId (s : State) (c : Cutter) : Option Nat :=
  (s.freeRecordIds.find? fun i => !c.echoes i) <|> s.freeRecordIds.head?

/-- The width of the rectangles of a CROSS or SERIES: the strip width of the planned geometry (R20, R60). -/
def stripWidthOf (rs : List Rect) : Nat := (rs.head?.map fun r => r.y1 - r.y0).getD 0

/-- The planned pieces of a step's planned geometry (R60), with piece ids from `piece` on. -/
def xPieces : Nat → List Rect → List PlannedPiece
  | _, [] => []
  | piece, r :: rs => { lo := r.x0, hi := r.x1, piece := piece } :: xPieces (piece + 1) rs

/-- The planned pieces of a step (R60): a RIP's y range; the x ranges of the pieces still to be cut, their ids continuing
after those already done. -/
def Step.pieces (st : Step) : List PlannedPiece :=
  let rs := st.planned.getD []
  match st.cut with
  | .rip _ => rs.map fun r => { lo := r.y0, hi := r.y1, piece := 0 }
  | .cross _ _ piece => xPieces piece rs
  | .series _ _ _ first => xPieces (first + st.done) rs

/-- The planned travel of a step on a slab of length L (R60). -/
def Step.travel (st : Step) (length : Nat) : Nat :=
  match st.cut with
  | .rip _ => length
  | .cross _ _ _ => stripWidthOf (st.planned.getD [])
  | .series _ _ _ _ => st.remaining * stripWidthOf (st.planned.getD [])

/-- The expected time of a travel on a cutter (R60): minutes of feed rounded up to a whole second, plus the overhead. -/
def expectedTime (st : CutterSettings) (travel : Nat) : Nat := (travel * 60 + (st.feed - 1)) / st.feed + st.overhead

/-- The record of an accepted CUT (R60). -/
def cutRecord (id : Nat) (c : Cutter) (sl : Slab) (st : Step) : CutRecord :=
  let rip := st.kind == .rip
  let travel := st.travel sl.length
  { id := id, state := .waiting, onCutter := c.number, slab := sl.id, number := st.number, job := st.job,
    stepKind := st.kind, cutterKind := c.kind, strip := if rip then 0 else st.strip, side := st.side,
    length := st.length, stripWidth := if rip then 0 else stripWidthOf (st.planned.getD []), pieces := st.pieces,
    travel := travel, expected := expectedTime c.settings travel, abortFlag := false, timer := 0 }

/-- The state after a CUT is accepted, and whether its record waits at the gate (R60, R124). -/
def State.accept (s : State) (id : Nat) (c : Cutter) (sl : Slab) (st : Step) : State × Bool :=
  let r := cutRecord id c sl st
  let s := s.setCutting { s.cutting with lastId := id }
  let s := s.putRecord r
  let s := s.putCutter { c with
    slots := c.slots ++ [id], state := if c.state = .loaded then .working else c.state }
  let s := s.issueStep sl.id st.number
  s.gateNew r

/-- A step that lets a later one be cut, and cannot itself be cut (R59, STEP_ORDER). -/
def StepState.passed : StepState → Bool
  | .done | .skipped | .issued => true
  | .pending | .flagged | .blocked | .partly | .unresolved => false

/-- The order check of a CUT (R59). -/
def Plan.inOrder (p : Plan) (st : Step) : Bool :=
  (p.steps.all fun q => decide (st.number ≤ q.number) || q.state.passed) && !st.state.passed

/-- The checks of R59 behind the existence checks, in the order of its table, and the acceptance. -/
def cutChecks (s : State) (c : Cutter) (sl : Slab) (p : Plan) (st : Step) (job : Nat) : Owned :=
  ensure (sl.state.onCutter == some c.number) .wrongState
    (ensure (p.inOrder st) .stepOrder
      (ensure (st.state != .flagged) .stepFlagged
        (ensure (st.state != .blocked) .stepBlocked
          (ensure (st.state != .unresolved) .stepUnresolved
            (ensure (st.job == job) .wrongState
              (ensure (s.jobOpen st.job) .jobClosed
                (ensure (!s.alarms.stops .jobStop st.job) .jobStopped
                  (ensure (!s.alarms.stops .cutterStop c.number) .cutterStopped
                    (ensure (c.state != .faulted) .wrongState
                      (ensure (c.toolState != .worn) .toolWorn
                        (ensure (decide (c.slots.length < 2)) .cutterBusy
                          (need (s.poolId c) .full fun id =>
                            let (t, waits) := s.accept id c sl st
                            .taken (if waits then .held else .ok) (be1 id) t))))))))))))

/-- CUT (R59), its checks in the order of its table. -/
def cutItem (number : Nat) (slab onCutter job : Option Nat) (o : Origin) (s : State) : Owned :=
  need (orContext slab o.ctx.slab) .noContext fun id =>
    need (orContext onCutter o.ctx.onCutter) .noContext fun n =>
      need (orContext job o.ctx.job) .noContext fun j =>
        ensure (stepRange number && cutterRange n && jobRange j) .badValue
          (need (s.cutter? n) .noSuch fun c =>
            need (s.slab? id) .noSuch fun sl =>
              need (s.plan? id) .noSuch fun p =>
                need (p.step? number) .noSuch fun st => cutChecks s c sl p st j)
def execCut (number : Nat) (slab onCutter job : Option Nat) (s : State) : Host.Outcome State Fault Refusal :=
  .next (s.itemStep (.cut number slab onCutter job) .work (cutItem number slab onCutter job))

/-! ### ABORT -/

/-- Whether a cutter has a record whose START is queued, in flight or acknowledged (R73). -/
def State.atCutter (s : State) (n : Nat) : Bool := s.cutting.records.any fun r => r.onCutter == n && r.state.sentOrLater

/-- The state after an ABORT that is taken (R73): the WAITING records end FAILED(ABORTED), the others are flagged, one ABORT
is queued when there is one, and the gate is told once when a record has ended (R57). -/
def State.aborted (s : State) (c : Cutter) : State :=
  let ended := (s.liveOf c).any fun r => r.state == .waiting
  let s := s.endWaiting c.number (.failed .aborted)
  let s := s.mapRecords c.number fun r => if r.state.sentOrLater then { r with abortFlag := true } else r
  let s := if s.atCutter c.number then s.enqueueAbort c.number else s
  s.reevaluateIf ended

/-- ABORT (R73). -/
def abortItem (number : Option Nat) (o : Origin) (s : State) : Owned :=
  needCutter s number o.ctx fun c => .ok (s.aborted c)
def execAbort (number : Option Nat) (s : State) : Host.Outcome State Fault Refusal :=
  .next (s.itemStep (.abort number) .work (abortItem number))

/-! ### CUTTER, READ CUTTER -/

/-- A cutter's kind by its number on the wire (R179). -/
def cutterKindOf (n : Nat) : Option CutterKind := if n = 1 then some .blade else if n = 2 then some .jet else none

/-- Every setting of a cutter in its range (R43). -/
def CutterSettings.inRange (st : CutterSettings) : Bool :=
  within 1 10 st.kerf && within 0 10 st.overcut && within 100 20000 st.feed && within 0 5000 st.draw &&
    within 0 600 st.overhead && within 30 3600 st.limit && within 0 1000000 st.machineRate &&
    within 0 1000000 st.toolRate && within 1 4000000000 st.newLife

/-- A new cutter (R48). -/
def Cutter.fresh (number address : Nat) (kind : CutterKind) (st : CutterSettings) : Cutter :=
  { number := number, address := address, kind := kind, settings := st, life := st.newLife, state := .idle,
    slab := none, slots := [], holdMark := false, lastTaken := none, uncertain := [] }

/-- An IDLE cutter with its settings replaced (R48), and its kind with them (log entry 32). -/
def Cutter.redefined (c : Cutter) (address : Nat) (kind : CutterKind) (st : CutterSettings) : Cutter :=
  { c with address := address, kind := kind, settings := st, life := min c.life st.newLife,
           holdMark := if address = c.address then c.holdMark else false }

/-- An IDLE cutter takes new settings (R48); bound to another address, it has no slot in a broadcast in progress (R142). -/
def State.redefineCutter (s : State) (c : Cutter) (address : Nat) (kind : CutterKind) (st : CutterSettings) : State :=
  let s' := s.putCutter (c.redefined address kind st)
  if address = c.address then s' else s'.noteRebound c.number

/-- A cutter leaves the table (R49); one defined anew under its number has no slot in a broadcast in progress (R142). -/
def State.removeCutter (s : State) (n : Nat) : State :=
  (s.setCutting { s.cutting with cutters := remove Cutter.number n s.cutting.cutters }).noteRemoved n

/-- CUTTER (R48). -/
def cutterItem (number address kind : Nat) (st : CutterSettings) (_ : Origin) (s : State) : Owned :=
  need (cutterKindOf kind) .badValue fun kind =>
    ensure (cutterRange number && addressRange address && st.inRange &&
        !(s.cutting.cutters.any fun c => c.address == address && c.number != number)) .badValue
      (match s.cutter? number with
        | none => .ok (s.putCutter (Cutter.fresh number address kind st))
        | some c => ensure (c.state == .idle) .wrongState (.ok (s.redefineCutter c address kind st)))
def execCutter (number address kind kerf overcut feed draw overhead limit machineRate toolRate newLife : Nat)
    (s : State) : Host.Outcome State Fault Refusal :=
  .next (s.itemStep (.cutter number address kind kerf overcut feed draw overhead limit machineRate toolRate newLife)
    .table (cutterItem number address kind
      ⟨kerf, overcut, feed, draw, overhead, limit, machineRate, toolRate, newLife⟩))

/-- CUTTER with the remove mark (R49). -/
def cutterRemoveItem (number : Nat) (_ : Origin) (s : State) : Owned :=
  ensure (cutterRange number) .badValue
    (need (s.cutter? number) .noSuch fun c =>
      ensure (c.state == .idle) .wrongState
        (.ok (s.removeCutter number)))
def execCutterRemove (number : Nat) (s : State) : Host.Outcome State Fault Refusal :=
  .next (s.itemStep (.cutterRemove number) .table (cutterRemoveItem number))

/-- READ CUTTER (R50). -/
def readCutterItem (number : Option Nat) (o : Origin) (s : State) : Owned :=
  needCutter s number o.ctx fun c => .okWith (c.bytes (s.liveOf c)) s
def execReadCutter (number : Option Nat) (s : State) : Host.Outcome State Fault Refusal :=
  .next (s.itemStep (.readCutter number) .read (readCutterItem number))

end Sys2Proof.Machine
end

