-- ==== Sys2Proof/Machine/Dispatch.lean ====
section
/-! DEFINITION. The commands dispatched: one arm for each constructor, each one call of its meaning. -/

namespace Sys2Proof.Machine

/-- The effect of a command on everything but the queue. -/
def exec (i : Instr) (s : State) : Host.Outcome State Fault Refusal :=
  match i with
  | .powerOn => Sys2Proof.Machine.execPowerOn s
  | .timeBaseSecond => Sys2Proof.Machine.execTimeBaseSecond s
  | .cutTimeout cutId => Sys2Proof.Machine.execCutTimeout cutId s
  | .channelEntersStale number => Sys2Proof.Machine.execChannelEntersStale number s
  | .scanPassDue => Sys2Proof.Machine.execScanPassDue s
  | .readerPollDue address => Sys2Proof.Machine.execReaderPollDue address s
  | .officeFrameBegin => Sys2Proof.Machine.execOfficeFrameBegin s
  | .officeHeaderArrived header => Sys2Proof.Machine.execOfficeHeaderArrived header s
  | .officeFrameArrived rest => Sys2Proof.Machine.execOfficeFrameArrived rest s
  | .officeLinkSilence => Sys2Proof.Machine.execOfficeLinkSilence s
  | .frameSent => Sys2Proof.Machine.execFrameSent s
  | .takeFrame => Sys2Proof.Machine.execTakeFrame s
  | .badItem => Sys2Proof.Machine.execBadItem s
  | .useJob job => Sys2Proof.Machine.execUseJob job s
  | .useCutter number => Sys2Proof.Machine.execUseCutter number s
  | .useSlab slab => Sys2Proof.Machine.execUseSlab slab s
  | .contextClear => Sys2Proof.Machine.execContextClear s
  | .price slab basis lot => Sys2Proof.Machine.execPrice slab basis lot s
  | .reserve slab job => Sys2Proof.Machine.execReserve slab job s
  | .release slab => Sys2Proof.Machine.execRelease slab s
  | .discard slab => Sys2Proof.Machine.execDiscard slab s
  | .findRemnant length width lot => Sys2Proof.Machine.execFindRemnant length width lot s
  | .remnantLimits width length => Sys2Proof.Machine.execRemnantLimits width length s
  | .planLoad slab kerf steps => Sys2Proof.Machine.execPlanLoad slab kerf steps s
  | .planClear slab => Sys2Proof.Machine.execPlanClear slab s
  | .skip slab number => Sys2Proof.Machine.execSkip slab number s
  | .verdict slab number ruling => Sys2Proof.Machine.execVerdict slab number ruling s
  | .tolerance mm => Sys2Proof.Machine.execTolerance mm s
  | .load slab number job => Sys2Proof.Machine.execLoad slab number job s
  | .unload number => Sys2Proof.Machine.execUnload number s
  | .toolChange number => Sys2Proof.Machine.execToolChange number s
  | .clearFault number => Sys2Proof.Machine.execClearFault number s
  | .cut number slab onCutter job => Sys2Proof.Machine.execCut number slab onCutter job s
  | .abort number => Sys2Proof.Machine.execAbort number s
  | .scanList numbers => Sys2Proof.Machine.execScanList numbers s
  | .scanStart mode number => Sys2Proof.Machine.execScanStart mode number s
  | .scanStop => Sys2Proof.Machine.execScanStop s
  | .channelLimits number low high => Sys2Proof.Machine.execChannelLimits number low high s
  | .waterRoles level turbidity returnFlow makeup => Sys2Proof.Machine.execWaterRoles level turbidity returnFlow makeup s
  | .waterMarks low critical resume turbLimit turbCritical => Sys2Proof.Machine.execWaterMarks low critical resume turbLimit turbCritical s
  | .lineHold => Sys2Proof.Machine.execLineHold s
  | .lineRelease => Sys2Proof.Machine.execLineRelease s
  | .jobOpen job quote => Sys2Proof.Machine.execJobOpen job quote s
  | .jobQuote job quote => Sys2Proof.Machine.execJobQuote job quote s
  | .jobClose job => Sys2Proof.Machine.execJobClose job s
  | .shopRates loop fresh => Sys2Proof.Machine.execShopRates loop fresh s
  | .station address kind => Sys2Proof.Machine.execStation address kind s
  | .stationRemove address => Sys2Proof.Machine.execStationRemove address s
  | .lineSettings window retries readerInterval staleness passInterval => Sys2Proof.Machine.execLineSettings window retries readerInterval staleness passInterval s
  | .floorRestart => Sys2Proof.Machine.execFloorRestart s
  | .cutter number address kind kerf overcut feed draw overhead limit machineRate toolRate newLife => Sys2Proof.Machine.execCutter number address kind kerf overcut feed draw overhead limit machineRate toolRate newLife s
  | .cutterRemove number => Sys2Proof.Machine.execCutterRemove number s
  | .channel number address index kind low high => Sys2Proof.Machine.execChannel number address index kind low high s
  | .channelRemove number => Sys2Proof.Machine.execChannelRemove number s
  | .alarmAction kind priority action => Sys2Proof.Machine.execAlarmAction kind priority action s
  | .origin number cls areas => Sys2Proof.Machine.execOrigin number cls areas s
  | .originRemove number => Sys2Proof.Machine.execOriginRemove number s
  | .openLevel level => Sys2Proof.Machine.execOpenLevel level s
  | .readSlab slab => Sys2Proof.Machine.execReadSlab slab s
  | .readPlan slab => Sys2Proof.Machine.execReadPlan slab s
  | .readCutter number => Sys2Proof.Machine.execReadCutter number s
  | .readChannel number => Sys2Proof.Machine.execReadChannel number s
  | .readJob job => Sys2Proof.Machine.execReadJob job s
  | .readRoster => Sys2Proof.Machine.execReadRoster s
  | .readWater => Sys2Proof.Machine.execReadWater s
  | .readAlarms => Sys2Proof.Machine.execReadAlarms s
  | .takeAlarm => Sys2Proof.Machine.execTakeAlarm s
  | .floorFrameBegin => Sys2Proof.Machine.execFloorFrameBegin s
  | .floorFrameSent => Sys2Proof.Machine.execFloorFrameSent s
  | .responseWindowExpired => Sys2Proof.Machine.execResponseWindowExpired s
  | .floorLineSilence => Sys2Proof.Machine.execFloorLineSilence s
  | .badFloorFrame => Sys2Proof.Machine.execBadFloorFrame s
  | .floorAck address => Sys2Proof.Machine.execFloorAck address s
  | .floorNak address => Sys2Proof.Machine.execFloorNak address s
  | .noneAnswer address => Sys2Proof.Machine.execNoneAnswer address s
  | .completionAnswer address cutId slab number ending pieces travel elapsed litres lengths => Sys2Proof.Machine.execCompletionAnswer address cutId slab number ending pieces travel elapsed litres lengths s
  | .scanAnswer address tag lot length width thickness zones => Sys2Proof.Machine.execScanAnswer address tag lot length width thickness zones s
  | .valueAnswer address index valid value => Sys2Proof.Machine.execValueAnswer address index valid value s
  | .startFailure onCutter cutId => Sys2Proof.Machine.execStartFailure onCutter cutId s
  | .abortFailure onCutter => Sys2Proof.Machine.execAbortFailure onCutter s
  | .cutterUnreachable onCutter => Sys2Proof.Machine.execCutterUnreachable onCutter s

end Sys2Proof.Machine
end

