-- ==== Sys2Proof/Safety.lean ====
section
/-! DEFINITION. The words the statements are made in: an item standing next to be taken, the answer an item gets, what
of the part a command leaves unchanged, and the conditions that every step keeps. -/

namespace Sys2Proof.Machine

/-! ### Items -/

/-- The area of an office item (08, table of items); none for a command that is an event. -/
def areaOf : Instr → Option Area
  | .useJob _ | .useCutter _ | .useSlab _ | .contextClear => some .context
  | .price _ _ _ | .reserve _ _ | .release _ | .discard _ | .findRemnant _ _ _ | .remnantLimits _ _ => some .stock
  | .planLoad _ _ _ | .planClear _ | .skip _ _ | .verdict _ _ _ | .tolerance _ => some .plan
  | .load _ _ _ | .unload _ | .toolChange _ | .clearFault _ | .cut _ _ _ _ | .abort _ => some .work
  | .scanList _ | .scanStart _ _ | .scanStop | .channelLimits _ _ _ | .waterRoles _ _ _ _ | .waterMarks _ _ _ _ _
  | .lineHold | .lineRelease => some .water
  | .jobOpen _ _ | .jobQuote _ _ | .jobClose _ | .shopRates _ _ => some .job
  | .station _ _ | .stationRemove _ | .lineSettings _ _ _ _ _ | .floorRestart | .cutter _ _ _ _ _ _ _ _ _ _ _ _
  | .cutterRemove _ | .channel _ _ _ _ _ _ | .channelRemove _ | .alarmAction _ _ _ | .origin _ _ _ | .originRemove _
  | .openLevel _ => some .table
  | .readSlab _ | .readPlan _ | .readCutter _ | .readChannel _ | .readJob _ | .readRoster | .readWater
  | .readAlarms => some .read
  | .takeAlarm => some .alarm
  | .powerOn | .timeBaseSecond | .cutTimeout _ | .channelEntersStale _ | .scanPassDue | .readerPollDue _
  | .officeFrameBegin | .officeHeaderArrived _ | .officeFrameArrived _ | .officeLinkSilence | .frameSent
  | .takeFrame | .badItem | .floorFrameBegin | .floorFrameSent | .responseWindowExpired | .floorLineSilence
  | .badFloorFrame | .floorAck _ | .floorNak _ | .noneAnswer _ | .completionAnswer _ _ _ _ _ _ _ _ _ _
  | .scanAnswer _ _ _ _ _ _ _ | .valueAnswer _ _ _ _ | .startFailure _ _ | .abortFailure _
  | .cutterUnreachable _ => none

/-- The item `i` stands next: nothing is due, the frame `h` is in hand, its next item spells `i` with `rest` behind it, and
its origin is defined with the record `o`. -/
abbrev Standing (s : State) (i : Instr) (h : InHand) (rest : List RawItem) (o : Origin) : Prop :=
  s.quiet = true ∧ s.handler.inHand = some h ∧ h.items.head?.bind decodeItem = some i ∧ h.items.tail = rest ∧
    s.origin? h.origin = some o

/-- The item `i` stands next and its origin may send it (R153). -/
abbrev Ready (s : State) (i : Instr) (area : Area) (h : InHand) (rest : List RawItem) (o : Origin) : Prop :=
  Standing s i h rest o ∧ o.maySend s.handler.openLevel area = true

/-- The state after an item with its result written and both arbiters moved on: `after` is what the item itself leaves. -/
def replied (after : State) (h : InHand) (rest : List RawItem) (code : ResultCode) (data : List Byte) : State :=
  (after.answerItem h rest ⟨code, data⟩).finish

/-- The REPLY frames on their way: the one being sent, then those that wait. -/
def outgoing (o : Office) : List (List Byte) :=
  (match o.sending with
    | some (.reply b) => [b]
    | some (.report _) | none => []) ++ o.replies

/-- Between `s` and `t` the item got the result `r` (R151, R158): the frame goes on with the items behind it, or it has
ended, every item behind a refused one NOT_TAKEN, and its REPLY is on its way behind the others. -/
def Answered (s t : State) (h : InHand) (rest : List RawItem) (r : Result) : Prop :=
  (r.code.isTaken = true ∧ rest ≠ [] →
    t.handler.inHand = some { h with items := rest, results := h.results ++ [r] } ∧
      outgoing t.office = outgoing s.office) ∧
  (r.code.isTaken = false ∨ rest = [] →
    t.handler.inHand = none ∧
      outgoing t.office = outgoing s.office ++
        [replyFrame h.origin h.tag (h.results ++ r :: rest.map fun _ => ⟨.notTaken, []⟩)])

/-! ### What is unchanged -/

/-- The parts of the state that a statement's frame speaks of. -/
inductive Part where
  | queue       -- the waiting commands
  | seconds     -- the seconds counter
  | free        -- the counter of free values
  | stock       -- slab records, recency order, next-id value, remnant minimums
  | plans       -- plans and the length tolerance
  | cutting     -- cutters, cut records, last-assigned id
  | cost        -- jobs and shop rates
  | channels    -- channel records
  | gate        -- roles, marks, latch, sources, line hold, waiting list, makeup
  | roster      -- stations
  | settings    -- line settings
  | floor       -- what goes on at the line port and in the scan engine
  | actions     -- alarm action table
  | entries     -- pending alarm table
  | reports     -- report queue and gap
  | origins     -- origin table and open level
  | port        -- the office port's receiver and received frames
  deriving DecidableEq, Repr

/-- The part is the same in `s` and `t`. The floor line and the report queue are moved on by the arbiters whenever a link
is free (R134, R160): they are held to be the same where that link was busy. -/
def Part.same (p : Part) (s t : State) : Prop :=
  match p with
  | .queue => t.pending = s.pending
  | .seconds => t.seconds = s.seconds
  | .free => t.freeCount = s.freeCount
  | .stock => t.stock = s.stock
  | .plans => t.plans = s.plans
  | .cutting => t.cutting = s.cutting
  | .cost => t.cost = s.cost
  | .channels => t.water.channels = s.water.channels
  | .gate => t.gate = s.gate
  | .roster => t.line.roster = s.line.roster
  | .settings => t.line.active = s.line.active ∧ t.line.pendingSet = s.line.pendingSet ∧
      t.line.staleness = s.line.staleness ∧ t.line.passInterval = s.line.passInterval
  | .floor => s.line.holder ≠ .free → t.line = s.line ∧ t.water.engine = s.water.engine
  | .actions => t.alarms.actions = s.alarms.actions
  | .entries => t.alarms.entries = s.alarms.entries
  | .reports => s.line.holder ≠ .free → s.office.sending.isSome →
      t.alarms.reports = s.alarms.reports ∧ t.alarms.gapNoted = s.alarms.gapNoted
  | .origins => t.handler.origins = s.handler.origins ∧ t.handler.openLevel = s.handler.openLevel
  | .port => t.office.receiver = s.office.receiver ∧ t.office.received = s.office.received

/-- Every part but those listed is the same in `s` and `t`. -/
def Unchanged (but : List Part) (s t : State) : Prop := ∀ p : Part, p ∉ but → p.same s t

/-! ### Conditions that every step keeps -/

/-- The pending alarm table and the report queue stay within their places, no two entries share a kind and subject, each
entry has the priority its kind has in the action table, and that table keeps its 16 kinds (R167, R169, R176). -/
def AlarmTablesHold (s : State) : Prop :=
  s.alarms.entries.length ≤ 48 ∧ s.alarms.reports.length ≤ 64 ∧
    (s.alarms.entries.Pairwise fun e f => ¬(e.kind = f.kind ∧ e.subject = f.subject)) ∧
    (∀ e ∈ s.alarms.entries, e.priority = (s.alarms.entryOf e.kind).priority) ∧
    s.alarms.actions.map ActionEntry.kind = AlarmKind.all

/-- Line hold is ON exactly while one of its three sources is active, and the alarm hold source is active exactly while an
entry of a LINE_HOLD kind is pending (R117, R119, R171). -/
def LineHoldFollows (s : State) : Prop :=
  s.gate.lineHold = s.gate.wantsHold ∧ s.gate.alarmSource = decide (0 < s.alarms.holdCount)

/-- Some origin of class 0 holds TABLE, and every origin stands at its own place 0 to 15 (R152). -/
def TableStaysReachable (s : State) : Prop :=
  keepsTable s.handler.origins = true ∧ ∀ o ∈ s.handler.origins, o.number ≤ 15

/-- A job's total is the lesser of the limit and the sum of its four accumulators (R90), and each stands within its
range (R75). -/
def Job.balanced (j : Job) : Prop :=
  j.total = min 4294967295 (j.material + j.tool + j.water + j.time) ∧ j.material ≤ 4294967295 ∧ j.tool ≤ 4294967295 ∧
    j.water ≤ 4294967295 ∧ j.time ≤ 4294967295 ∧ j.pieces ≤ 65535 ∧ j.flawed ≤ 65535 ∧ j.outOfTol ≤ 65535

/-- Every job is balanced. -/
def JobsBalanced (s : State) : Prop := ∀ j ∈ s.cost.jobs, j.balanced

/-- The input buffer is never overfilled (R148). -/
def BufferHolds (s : State) : Prop := s.occupied ≤ 4

/-- The stock table holds at most 256 records, in rising order of their ids, so each id at most once (R1). -/
def StockHolds (s : State) : Prop :=
  s.stock.slabs.length ≤ 256 ∧ s.stock.slabs.Pairwise fun a b => a.id < b.id

/-- The line command queue holds at most 16 commands (R136). -/
def QueueHolds (s : State) : Prop := s.line.queue.length ≤ 16

end Sys2Proof.Machine
end

