-- ==== Sys2Proof/WellFormed.lean ====
section
/-! DEFINITION. A command is well formed when every operand fits the width the layouts give it (R179, R182, R183): so
every well-formed item has bytes on the office link, and every well-formed answer has bytes on the floor line. -/

namespace Sys2Proof

/-- A number of 1 byte. -/
def fits1 (n : Nat) : Bool := n < 256
/-- A number of 2 bytes. -/
def fits2 (n : Nat) : Bool := n < 65536
/-- A number of 4 bytes. -/
def fits4 (n : Nat) : Bool := n < 4294967296
/-- An operand that may be absent. -/
def fitsOpt (fits : Nat → Bool) : Option Nat → Bool
  | none => true
  | some n => fits n

/-- A step entry of PLAN LOAD fits its 11 bytes. -/
def RawStep.wf (r : RawStep) : Bool :=
  fits1 r.kind && fits1 r.job && fits1 r.strip && fits1 r.side && fits1 r.count && fits2 r.length && fits4 r.piece

/-- A zone fits its 8 bytes. -/
def Zone.wf (z : Zone) : Bool := fits2 z.xFrom && fits2 z.xTo && fits2 z.yFrom && fits2 z.yTo

/-- Every operand fits its width. -/
def Instr.wf : Instr → Bool
  | .powerOn | .timeBaseSecond | .scanPassDue | .officeFrameBegin | .officeFrameArrived _ | .officeLinkSilence
  | .frameSent | .takeFrame | .badItem | .contextClear | .scanStop | .lineHold | .lineRelease | .floorRestart
  | .readRoster | .readWater | .readAlarms | .takeAlarm | .floorFrameBegin | .floorFrameSent | .responseWindowExpired
  | .floorLineSilence | .badFloorFrame => true
  | .cutTimeout n | .channelEntersStale n | .readerPollDue n | .tolerance n | .stationRemove n | .cutterRemove n
  | .channelRemove n | .originRemove n | .openLevel n | .readChannel n | .floorAck n | .floorNak n | .noneAnswer n
  | .abortFailure n | .cutterUnreachable n => fits1 n
  | .startFailure c n => fits1 c && fits1 n
  | .officeHeaderArrived h => h.length == 7
  | .useJob o | .useCutter o | .unload o | .toolChange o | .clearFault o | .abort o | .jobClose o | .readCutter o
  | .readJob o => fitsOpt fits1 o
  | .useSlab o | .release o | .discard o | .planClear o | .readSlab o | .readPlan o => fitsOpt fits4 o
  | .price s b lot => fitsOpt fits4 s && fits4 b && fitsOpt fits1 lot
  | .reserve s j => fitsOpt fits4 s && fitsOpt fits1 j
  | .findRemnant l w lot => fits2 l && fits2 w && fitsOpt fits1 lot
  | .remnantLimits w l => fits2 w && fits2 l
  | .planLoad s k steps => fitsOpt fits4 s && fits1 k && fits1 steps.length && steps.all RawStep.wf
  | .skip s n => fitsOpt fits4 s && fits1 n
  | .verdict s n v => fitsOpt fits4 s && fits1 n && fits1 v
  | .load s c j => fitsOpt fits4 s && fitsOpt fits1 c && fitsOpt fits1 j
  | .cut n s c j => fits1 n && fitsOpt fits4 s && fitsOpt fits1 c && fitsOpt fits1 j
  | .scanList ns => fits1 ns.length && ns.all fits1
  | .scanStart m n => fits1 m && fitsOpt fits1 n
  | .channelLimits n lo hi => fits1 n && fitsOpt fits2 lo && fitsOpt fits2 hi
  | .waterRoles a b c d => fitsOpt fits1 a && fitsOpt fits1 b && fitsOpt fits1 c && fitsOpt fits1 d
  | .waterMarks a b c d e => fits2 a && fits2 b && fits2 c && fits2 d && fits2 e
  | .jobOpen j q | .jobQuote j q => fitsOpt fits1 j && fitsOpt fits4 q
  | .shopRates a b => fits4 a && fits4 b
  | .station a k => fits1 a && fits1 k
  | .lineSettings w r i st p => fits2 w && fits1 r && fits2 i && fits2 st && fits2 p
  | .cutter n a k ke ov f d oh lim mr tr nl =>
    fits1 n && fits1 a && fits1 k && fits1 ke && fits1 ov && fits2 f && fits2 d && fits2 oh && fits2 lim &&
      fits4 mr && fits4 tr && fits4 nl
  | .channel n a i k lo hi => fits1 n && fits1 a && fits1 i && fits1 k && fitsOpt fits2 lo && fitsOpt fits2 hi
  | .alarmAction k p a => fits1 k && fits1 p && fits1 a
  | .origin n c a => fits1 n && fits1 c && fits1 a
  | .completionAnswer a c s n e p t el w ls =>
    fits1 a && fits1 c && fits4 s && fits1 n && (1 ≤ e && e ≤ 3) && fits1 p && fits2 t && fits2 el && fits2 w &&
      ls.length ≤ 8 && ls.all fits2
  | .scanAnswer a tag lot l w th zs =>
    fits1 a && fits4 tag && fits1 lot && fits2 l && fits2 w && fits1 th && zs.length < 256 && zs.all Zone.wf
  | .valueAnswer a i _ v => fits1 a && fits1 i && fits2 v

end Sys2Proof
end

