-- ==== Sys2Proof/Certificates/Slice0/Obligations.lean ====
section
/-! DEFINITION. The statements about the part, each a proposition for the provers. -/

open Sys2Proof Sys2Proof.Machine

/-- O1. A step runs the command at the front of the queue (95 What each step holds, log entry 1). -/
def Obligations.StepRunsTheFrontCommand : Prop :=
  ∀ (c : Instr) (s : State) (rest : List Instr), s.pending = c :: rest → step s = exec c (s.setPending rest)

/-- O2. POWER_ON brings every block to its power-on values (95 POWER_ON, R1, R12, R13, R15, R19, R41, R43, R55, R75, R80, R95, R102, R111, R129, R135, R136, R144, R148, R152, R169, R176). The command queue and the counter of free values are the model's own and stay (log entries 1, 4). -/
def Obligations.PowerOnBringsReset : Prop :=
  (∀ s : State, exec .powerOn s = .next { State.reset with pending := s.pending, freeCount := s.freeCount }) ∧
  (State.reset.seconds = 0 ∧ State.reset.stock.slabs = [] ∧ State.reset.stock.recency = [] ∧
     State.reset.stock.nextId = 4000000000 ∧ State.reset.stock.minWidth = 300 ∧ State.reset.stock.minLength = 600 ∧
     State.reset.plans.plans = [] ∧ State.reset.plans.tolerance = 2 ∧ State.reset.cutting.cutters = [] ∧
     State.reset.cutting.records = [] ∧ State.reset.cutting.lastId = 15 ∧
     (∀ n, n ≤ 63 → (State.reset.job n).state = (if n = 0 then .opened else .closed) ∧ (State.reset.job n).quote = none ∧
       (State.reset.job n).total = 0 ∧ (State.reset.job n).pieces = 0) ∧
     State.reset.cost.loopRate = 0 ∧ State.reset.cost.freshRate = 0 ∧ State.reset.water.channels = [] ∧
     State.reset.water.engine.mode = none ∧ State.reset.water.engine.run = 0 ∧ State.reset.gate.lineHold = false ∧
     State.reset.gate.latch = false ∧ State.reset.gate.waiting = [] ∧ State.reset.line.roster = [] ∧
     State.reset.line.queue = [] ∧ State.reset.line.active = ⟨20, 2, 1⟩ ∧ State.reset.line.pendingSet = ⟨20, 2, 1⟩ ∧
     State.reset.line.staleness = 10 ∧ State.reset.line.passInterval = 2 ∧ State.reset.line.rotation = 0 ∧
     State.reset.alarms.entries = [] ∧ State.reset.alarms.reports = [] ∧ State.reset.alarms.gapNoted = false ∧
     State.reset.readyLine = true ∧ State.reset.handler.openLevel = 0 ∧
     State.reset.handler.origins = [{ number := 0, cls := 0, areas := 255#8, ctx := ⟨none, none, none⟩ }])

/-- O3. A second counts, ticks the timers of EXECUTING records and evaluates every channel (R65, R100, log entry 2, log entry 5). -/
def Obligations.SecondCountsAndEvaluates : Prop :=
  ∀ s : State, s.quiet = true →
    ∃ t, exec .timeBaseSecond s = .next t ∧ t.seconds = (s.seconds + 1) % 4294967296 ∧
      (∀ id r, s.record? id = some r →
        t.record? id = some { r with timer := if r.state = .executing then r.timer + 1 else r.timer }) ∧
      (∀ n ch, s.channel? n = some ch →
        t.channel? n = some { ch with stale := ch.stale && ch.staleAt t.seconds s.line.staleness }) ∧
      (∀ n, n ∈ t.water.staleDue ↔
        ∃ ch ∈ s.water.channels, ch.number = n ∧ ch.stale = false ∧
          ch.staleAt t.seconds s.line.staleness = true) ∧
      Unchanged [.seconds, .cutting, .channels] s t ∧ t.cutting.cutters = s.cutting.cutters ∧
      t.cutting.lastId = s.cutting.lastId ∧ (∀ id, s.record? id = none → t.record? id = none) ∧
      (∀ n, s.channel? n = none → t.channel? n = none)

/-- O4. A record whose timer has reached the limit times out and its cutter is FAULTED (R65, R57, R70). -/
def Obligations.TimeoutEndsItsRecord : Prop :=
  ∀ (s : State) (id : Nat) (r : CutRecord) (c : Cutter), s.record? id = some r → r.state = .executing →
    s.cutter? r.onCutter = some c → c.settings.limit ≤ r.timer →
    ∃ t, exec (.cutTimeout id) s = .next t ∧ t.record? id = none ∧
      (t.cutter? r.onCutter).map Cutter.state = some .faulted ∧
      t = ((((s.endRecord r .timedOut true).faultCutter r.onCutter).raise .cutTimeout r.onCutter).faultSweep
        r.onCutter).reevaluate.finish

/-- O5. A channel that a second found past the limit enters stale, with an alarm when it holds a role (R100, log entry 2). -/
def Obligations.StaleEpisodeBegins : Prop :=
  ∀ (s : State) (n : Nat) (ch : Channel), n ∈ s.water.staleDue → s.channel? n = some ch → ch.stale = false →
    ch.staleAt s.seconds s.line.staleness = true →
    ∃ t, exec (.channelEntersStale n) s = .next t ∧ t.channel? n = some { ch with stale := true } ∧
      (∀ m, m ≠ n → t.channel? m = s.channel? m) ∧
      t.alarms.entries = (if (s.gate.roleOf n).isSome then (s.alarms.raised .channelStale n s.seconds).1
        else s.alarms.entries) ∧
      Unchanged [.channels, .entries, .gate, .floor, .reports] s t

/-- O6. A due pass makes its first poll due, ahead of every reader poll; a due reader poll has the rotation's next station polled (R105, R134, R135, R139; `reached` is log entry 5). -/
def Obligations.DuePollsAreMade : Prop :=
  (∀ (s : State) (e : Engine) (last : Nat), s.water.engine = e → e.mode = some .continuous → e.due = false →
     e.position = some 1 → e.flightIsCurrent = false → e.lastPassEnd = some last →
     reached s.seconds (secondsAfter last s.line.passInterval) = true →
     exec .scanPassDue s = .next (s.setEngine { e with due := true }).finish) ∧
  (∀ (s : State) (a b : Nat), s.readerDue a = true → s.line.holder = .free → s.line.broadcast = none →
     s.line.queue = [] → s.water.engine.due = false → s.passDue = false → s.nextRotation = some b →
     ∃ t, exec (.readerPollDue a) s = .next t ∧
       t.line.holder = .tx { kind := .poll, address := b, phase := .sending } ∧ t.line.rotation = b ∧
       t.line.out = some (pollFrame b 0) ∧
       Unchanged [.floor, .reports] s t) ∧
  (∀ (s : State) (a : Nat), s.readerDue a = true → s.line.holder = .free → s.line.broadcast = none →
     s.line.queue = [] → s.passDue = true →
     exec (.readerPollDue a) s = .next (s.setEngine { s.water.engine with due := true }).finish)

/-- O7. The reports of the line port: a failed START, a failed ABORT, an unreachable cutter (R63, R57, R30, R74, R71, R64). -/
def Obligations.LinePortReportsAreTaken : Prop :=
  (∀ (s : State) (n id : Nat) (r : CutRecord) (c : Cutter), .startFailed n id ∈ s.line.reports → s.record? id = some r →
     r.onCutter = n → r.state = .sent → s.cutter? n = some c → c.state ≠ .faulted →
     ∃ t, exec (.startFailure n id) s = .next t ∧ t.record? id = none ∧
       (t.cutter? n).map Cutter.state ≠ some .faulted ∧
       t = ((s.setLine { s.line with reports := s.line.reports.erase (.startFailed n id) }).endRecord r
         (.failed .unreachable) false).reevaluate.finish) ∧
  (∀ (s : State) (n : Nat), .abortFailed n ∈ s.line.reports →
     ∃ t, exec (.abortFailure n) s = .next t ∧ Unchanged [.floor] s t ∧
       t = (s.setLine { s.line with reports := s.line.reports.erase (.abortFailed n) }).finish) ∧
  (∀ (s : State) (n : Nat) (c : Cutter), .unreachable n ∈ s.line.reports → s.cutter? n = some c →
     ∃ t, exec (.cutterUnreachable n) s = .next t ∧
       (t.cutter? n).map Cutter.state = some .faulted ∧ (t.cutter? n).map Cutter.holdMark = some false ∧
       ∀ id ∈ c.slots, t.record? id = none)

/-- O8. The office port receives a frame, cuts it off, or discards it (R148, R181, R149, R180; that an over-long frame without a slot is cut off at its header too is log entry 35). -/
def Obligations.OfficePortReceivesFrames : Prop :=
  (∀ s : State, s.quiet = true → s.office.receiver = .hunting →
     ∃ t, exec .officeFrameBegin s = .next t ∧ t.office.receiver = .header (decide (s.occupied < 4)) ∧
       t.office.received = s.office.received ∧ t.handler = s.handler ∧ outgoing t.office = outgoing s.office ∧
       Unchanged [.port] s t) ∧
  (∀ (s : State) (slot : Bool) (header : List Byte), s.quiet = true → s.office.receiver = .header slot →
     header.length = 7 →
     ∃ t, exec (.officeHeaderArrived header) s = .next t ∧
       t.office.receiver = (if 4096 < headerLength header then .hunting else .body slot header) ∧
       t.office.received = s.office.received ∧ t.handler = s.handler ∧ outgoing t.office = outgoing s.office ∧
       Unchanged [.port] s t) ∧
  (∀ (s : State) (slot : Bool) (header rest : List Byte), s.quiet = true → s.office.receiver = .body slot header →
     rest.length = headerLength header + 2 →
     ∃ t, exec (.officeFrameArrived rest) s = .next t ∧ t.office.receiver = .hunting ∧
       t.office.received = s.office.received ++
         (match slot, decodeRequest header rest with
           | true, some (origin, tag, items) => [{ origin := origin, tag := tag, items := items }]
           | _, _ => []) ∧
       t.handler = s.handler ∧ outgoing t.office = outgoing s.office ∧ Unchanged [.port] s t) ∧
  (∀ s : State, s.quiet = true →
     ∃ t, exec .officeLinkSilence s = .next t ∧ t.office.receiver = .hunting ∧
       t.office.received = s.office.received ∧ t.handler = s.handler ∧ outgoing t.office = outgoing s.office ∧
       Unchanged [.port] s t)

/-- O9. When a frame has left, the oldest REPLY is sent, else the head REPORT (R160, R176). -/
def Obligations.OutputArbiterChoosesReplyFirst : Prop :=
  ∀ s : State, s.quiet = true → s.line.holder ≠ .free →
    ∃ t, exec .frameSent s = .next t ∧
      (∀ r rs, s.office.replies = r :: rs →
        t.office.sending = some (.reply r) ∧ t.office.replies = rs ∧ t.alarms = s.alarms) ∧
      (∀ q qs, s.office.replies = [] → s.alarms.reports = q :: qs →
        t.office.sending = some (.report (reportFrame q)) ∧ t.office.replies = [] ∧ t.alarms.reports = qs) ∧
      (s.office.replies = [] → s.alarms.reports = [] → t.office.sending = none) ∧
      t.handler = s.handler ∧ Unchanged [.reports] s t

/-- O10. TAKE_FRAME begins or denies a frame; an unreadable item ends it (R150, R154, R158, R151, R182). -/
def Obligations.FramesAreBegunDeniedOrRefused : Prop :=
  (∀ (s : State) (f : Request) (fs : List Request), s.quiet = true → s.handler.inHand = none →
     s.office.received = f :: fs →
     ∃ t, exec .takeFrame s = .next t ∧ t.office.received = fs ∧ t.office.receiver = s.office.receiver ∧
       (f.origin ≤ 15 → (s.origin? f.origin).isSome = true →
         t.handler.inHand = some { origin := f.origin, tag := f.tag, items := f.items, results := [] } ∧
           outgoing t.office = outgoing s.office) ∧
       (15 < f.origin ∨ s.origin? f.origin = none →
         t.handler.inHand = none ∧
           outgoing t.office = outgoing s.office ++
             [replyFrame f.origin f.tag (f.items.map fun _ => ⟨.denied, []⟩)]) ∧
       Unchanged [.port] s t) ∧
  (∀ (s : State) (h : InHand) (raw : RawItem) (rest : List RawItem), s.quiet = true → s.handler.inHand = some h →
     h.items = raw :: rest → decodeItem raw = none →
     ∃ t, exec .badItem s = .next t ∧ Answered s t h rest ⟨.badItem, []⟩ ∧ Unchanged [] s t)

/-- O11. An item that its origin may not send is refused DENIED and changes nothing (R153, R151, R166). -/
def Obligations.DeniedItemChangesNothing : Prop :=
  ∀ (i : Instr) (a : Area) (s : State) (h : InHand) (rest : List RawItem), areaOf i = some a → s.quiet = true →
    s.handler.inHand = some h → h.items.head?.bind decodeItem = some i → h.items.tail = rest →
    (∀ o, s.origin? h.origin = some o → o.maySend s.handler.openLevel a = false) →
    ∃ t, exec i s = .next t ∧ Answered s t h rest ⟨.denied, []⟩ ∧ Unchanged [] s t

/-- O12. Every item that may be sent gets one result, a refused one changes nothing, and a READ item whose record stands is taken with OK (R151, R158, R166, R159, R10, R42, R50, R94, R101, R164, R165, R174). -/
def Obligations.EveryItemIsAnsweredOnceWhole : Prop :=
  (∀ (i : Instr) (a : Area) (s : State) (h : InHand) (rest : List RawItem) (o : Origin), areaOf i = some a →
     Ready s i a h rest o →
     ∃ t r, exec i s = .next t ∧ Answered s t h rest r ∧ (r.code.isTaken = false → r.data = [] ∧ Unchanged [] s t)) ∧
  (∀ (s : State) (h : InHand) (rest : List RawItem) (o : Origin),
     let taken := fun i : Instr => ∃ t d, exec i s = .next t ∧ Answered s t h rest ⟨.ok, d⟩ ∧ Unchanged [] s t
     (∀ slab id, Ready s (.readSlab slab) .read h rest o → orContext slab o.ctx.slab = some id →
       slabRange id = true → (s.slab? id).isSome = true → taken (.readSlab slab)) ∧
     (∀ slab id, Ready s (.readPlan slab) .read h rest o → orContext slab o.ctx.slab = some id →
       slabRange id = true → (s.slab? id).isSome = true → (s.plan? id).isSome = true → taken (.readPlan slab)) ∧
     (∀ number n, Ready s (.readCutter number) .read h rest o → orContext number o.ctx.onCutter = some n →
       cutterRange n = true → (s.cutter? n).isSome = true → taken (.readCutter number)) ∧
     (∀ n, Ready s (.readChannel n) .read h rest o → channelRange n = true → (s.channel? n).isSome = true →
       taken (.readChannel n)) ∧
     (∀ job n, Ready s (.readJob job) .read h rest o → orContext job o.ctx.job = some n → jobRange n = true →
       taken (.readJob job)) ∧
     (Ready s .readRoster .read h rest o → taken .readRoster) ∧ (Ready s .readWater .read h rest o → taken .readWater) ∧
     (Ready s .readAlarms .read h rest o → taken .readAlarms))

/-- O13. Each READ item is taken with the data of the record it names (R10, R42, R50, R94, R101, R159, R164, R165, R174, R179; the order and presence of fields that no rule states is log entry 7). -/
def Obligations.ReadsReturnTheirRecords : Prop :=
  ∀ (s : State) (h : InHand) (rest : List RawItem) (o : Origin),
    (∀ slab id sl, Ready s (.readSlab slab) .read h rest o → orContext slab o.ctx.slab = some id →
      slabRange id = true → s.slab? id = some sl →
      exec (.readSlab slab) s = .next (replied s h rest .ok sl.bytes)) ∧
    (∀ slab id sl p, Ready s (.readPlan slab) .read h rest o → orContext slab o.ctx.slab = some id →
      slabRange id = true → s.slab? id = some sl → s.plan? id = some p →
      exec (.readPlan slab) s = .next (replied s h rest .ok (p.bytes (s.kerfInUse sl p)))) ∧
    (∀ number n c, Ready s (.readCutter number) .read h rest o → orContext number o.ctx.onCutter = some n →
      cutterRange n = true → s.cutter? n = some c →
      exec (.readCutter number) s = .next (replied s h rest .ok (c.bytes (s.liveOf c)))) ∧
    (∀ n ch, Ready s (.readChannel n) .read h rest o → channelRange n = true → s.channel? n = some ch →
      exec (.readChannel n) s = .next (replied s h rest .ok (s.channelBytes ch))) ∧
    (∀ job n, Ready s (.readJob job) .read h rest o → orContext job o.ctx.job = some n → jobRange n = true →
      exec (.readJob job) s = .next (replied s h rest .ok ((s.job n).bytes (s.job n).unitCost))) ∧
    (Ready s .readRoster .read h rest o → exec .readRoster s = .next (replied s h rest .ok s.rosterBytes)) ∧
    (Ready s .readWater .read h rest o → exec .readWater s = .next (replied s h rest .ok s.waterBytes)) ∧
    (Ready s .readAlarms .read h rest o → exec .readAlarms s = .next (replied s h rest .ok s.alarms.bytes))

/-- O14. USE JOB, USE CUTTER and USE SLAB set one field of their own origin's context (R156, R159). -/
def Obligations.UseItemsSetOneContextField : Prop :=
  ∀ (s : State) (h : InHand) (rest : List RawItem) (o : Origin) (n : Option Nat),
    (Ready s (.useJob n) .context h rest o → n.all (· ≤ 63) = true →
      ∃ t, exec (.useJob n) s = .next t ∧ t.origin? o.number = some { o with ctx := { o.ctx with job := n } } ∧
        (∀ m, m ≠ o.number → t.origin? m = s.origin? m) ∧
        Answered s t h rest ⟨.ok, { o.ctx with job := n }.bytes⟩ ∧ Unchanged [.origins] s t ∧
        t.handler.openLevel = s.handler.openLevel) ∧
    (Ready s (.useCutter n) .context h rest o → n.all (fun c => 1 ≤ c && c ≤ 8) = true →
      ∃ t, exec (.useCutter n) s = .next t ∧
        t.origin? o.number = some { o with ctx := { o.ctx with onCutter := n } } ∧
        (∀ m, m ≠ o.number → t.origin? m = s.origin? m) ∧
        Answered s t h rest ⟨.ok, { o.ctx with onCutter := n }.bytes⟩ ∧ Unchanged [.origins] s t ∧
        t.handler.openLevel = s.handler.openLevel) ∧
    (Ready s (.useSlab n) .context h rest o → n.all (fun c => 1 ≤ c && c ≤ 4294967295) = true →
      ∃ t, exec (.useSlab n) s = .next t ∧ t.origin? o.number = some { o with ctx := { o.ctx with slab := n } } ∧
        (∀ m, m ≠ o.number → t.origin? m = s.origin? m) ∧
        Answered s t h rest ⟨.ok, { o.ctx with slab := n }.bytes⟩ ∧ Unchanged [.origins] s t ∧
        t.handler.openLevel = s.handler.openLevel) ∧
    (Ready s (.useJob n) .context h rest o → n.any (63 < ·) = true →
      ∃ t, exec (.useJob n) s = .next t ∧ Answered s t h rest ⟨.badValue, []⟩ ∧ Unchanged [] s t) ∧
    (Ready s (.useCutter n) .context h rest o → n.any (fun c => c = 0 || 8 < c) = true →
      ∃ t, exec (.useCutter n) s = .next t ∧ Answered s t h rest ⟨.badValue, []⟩ ∧ Unchanged [] s t) ∧
    (Ready s (.useSlab n) .context h rest o → n.any (fun c => c = 0 || 4294967295 < c) = true →
      ∃ t, exec (.useSlab n) s = .next t ∧ Answered s t h rest ⟨.badValue, []⟩ ∧ Unchanged [] s t)

/-- O15. CONTEXT CLEAR makes the three context fields of its origin absent (R157). -/
def Obligations.ContextClearForgetsTheContext : Prop :=
  ∀ (s : State) (h : InHand) (rest : List RawItem) (o : Origin), Ready s .contextClear .context h rest o →
    ∃ t, exec .contextClear s = .next t ∧ t.origin? o.number = some { o with ctx := ⟨none, none, none⟩ } ∧
      (∀ m, m ≠ o.number → t.origin? m = s.origin? m) ∧
      Answered s t h rest ⟨.ok, be1 0 ++ be1 0 ++ be1 0⟩ ∧ Unchanged [.origins] s t ∧
      t.handler.openLevel = s.handler.openLevel

/-- O16. ORIGIN, its removal and OPEN LEVEL rewrite the origin table and the open level (R152, R161, R162, R163). -/
def Obligations.OriginItemsRewriteTheTable : Prop :=
  ∀ (s : State) (h : InHand) (rest : List RawItem) (o : Origin),
    (∀ n c a, Ready s (.origin n c a) .table h rest o → n ≤ 15 → c ≤ 3 →
      let r : Origin := { number := n, cls := c, areas := BitVec.ofNat 8 a,
                          ctx := ((s.origin? n).map Origin.ctx).getD ⟨none, none, none⟩ }
      (keepsTable (put Origin.number r s.handler.origins) = true →
        ∃ t, exec (.origin n c a) s = .next t ∧ t.origin? n = some r ∧ (∀ m, m ≠ n → t.origin? m = s.origin? m) ∧
          t.handler.openLevel = s.handler.openLevel ∧ Answered s t h rest ⟨.ok, r.bytes⟩ ∧
          Unchanged [.origins] s t) ∧
      (keepsTable (put Origin.number r s.handler.origins) = false →
        ∃ t, exec (.origin n c a) s = .next t ∧ Answered s t h rest ⟨.wrongState, []⟩ ∧ Unchanged [] s t)) ∧
    (∀ n, Ready s (.originRemove n) .table h rest o → n ≤ 15 → (s.origin? n).isSome = true →
      keepsTable (remove Origin.number n s.handler.origins) = true →
      ∃ t, exec (.originRemove n) s = .next t ∧ t.origin? n = none ∧ (∀ m, m ≠ n → t.origin? m = s.origin? m) ∧
        t.handler.openLevel = s.handler.openLevel ∧ Answered s t h rest ⟨.ok, []⟩ ∧ Unchanged [.origins] s t) ∧
    (∀ l, Ready s (.openLevel l) .table h rest o → l ≤ 3 →
      ∃ t, exec (.openLevel l) s = .next t ∧ t.handler.openLevel = l ∧ t.handler.origins = s.handler.origins ∧
        Answered s t h rest ⟨.ok, []⟩ ∧ Unchanged [.origins] s t)

/-- O17. PRICE sets the basis, and the lot when it carries one, and nothing else (R6, R155, R166). -/
def Obligations.PriceSetsBasisAndLot : Prop :=
  ∀ (s : State) (h : InHand) (rest : List RawItem) (o : Origin) (slab : Option Nat) (basis : Nat) (lot : Option Nat)
    (id : Nat) (sl : Slab), Ready s (.price slab basis lot) .stock h rest o → orContext slab o.ctx.slab = some id →
    slabRange id = true → basis ≤ 1000000 → lot.all (· ≤ 255) = true → s.slab? id = some sl →
    ∃ t, exec (.price slab basis lot) s = .next t ∧
      t.slab? id = some { sl with basis := some basis, lot := lot.getD sl.lot } ∧
      (∀ j, j ≠ id → t.slab? j = s.slab? j) ∧ t.stock.recency = s.stock.recency ∧
      t.stock.nextId = s.stock.nextId ∧ t.stock.minWidth = s.stock.minWidth ∧ t.stock.minLength = s.stock.minLength ∧
      Answered s t h rest ⟨.ok, []⟩ ∧ Unchanged [.stock] s t

/-- O18. RESERVE makes its checks in the order of its table and reserves the slab (R7, R12, R166; slab id 0 is NO_SUCH by log entry 6). -/
def Obligations.ReserveChecksInOrder : Prop :=
  ∀ (s : State) (h : InHand) (rest : List RawItem) (o : Origin) (slab job : Option Nat),
    Ready s (.reserve slab job) .stock h rest o →
    ∃ t, exec (.reserve slab job) s = .next t ∧
      match orContext slab o.ctx.slab, orContext job o.ctx.job with
      | some id, some j =>
        if 63 < j then Answered s t h rest ⟨.badValue, []⟩ ∧ Unchanged [] s t
        else match s.slab? id with
          | none => Answered s t h rest ⟨.noSuch, []⟩ ∧ Unchanged [] s t
          | some sl =>
            if sl.state ≠ .stocked then Answered s t h rest ⟨.wrongState, []⟩ ∧ Unchanged [] s t
            else if sl.basis = none then Answered s t h rest ⟨.noBasis, []⟩ ∧ Unchanged [] s t
            else if (s.job j).state ≠ .opened then Answered s t h rest ⟨.jobClosed, []⟩ ∧ Unchanged [] s t
            else Answered s t h rest ⟨.ok, []⟩ ∧ t.slab? id = some { sl with state := .reserved j } ∧
              (∀ k, k ≠ id → t.slab? k = s.slab? k) ∧
              t.stock.recency = (if sl.remnant.isSome then id :: s.stock.recency.filter (· != id)
                else s.stock.recency) ∧ t.stock.nextId = s.stock.nextId ∧ t.stock.minWidth = s.stock.minWidth ∧
              t.stock.minLength = s.stock.minLength ∧ Unchanged [.stock] s t
      | _, _ => Answered s t h rest ⟨.noContext, []⟩ ∧ Unchanged [] s t

/-- O19. RELEASE returns a RESERVED slab without a plan to stock, and is refused otherwise (R8, R166). -/
def Obligations.ReleaseReturnsAPlanlessSlab : Prop :=
  ∀ (s : State) (h : InHand) (rest : List RawItem) (o : Origin) (slab : Option Nat),
    Ready s (.release slab) .stock h rest o →
    ∃ t, exec (.release slab) s = .next t ∧
      match orContext slab o.ctx.slab with
      | none => Answered s t h rest ⟨.noContext, []⟩ ∧ Unchanged [] s t
      | some id =>
        slabRange id = true →
          match s.slab? id with
          | none => Answered s t h rest ⟨.noSuch, []⟩ ∧ Unchanged [] s t
          | some sl =>
            if sl.isReserved = true ∧ s.plan? id = none then
              t.slab? id = some { sl with state := .stocked } ∧ (∀ k, k ≠ id → t.slab? k = s.slab? k) ∧
                t.stock.recency = s.stock.recency ∧ t.stock.nextId = s.stock.nextId ∧
                t.stock.minWidth = s.stock.minWidth ∧ t.stock.minLength = s.stock.minLength ∧
                Answered s t h rest ⟨.ok, []⟩ ∧ Unchanged [.stock] s t
            else Answered s t h rest ⟨.wrongState, []⟩ ∧ Unchanged [] s t

/-- O20. DISCARD removes a STOCKED slab, reports it, and charges its stone to job 0 (R9, R12, R88, R175, R178). -/
def Obligations.DiscardRemovesReportsAndCharges : Prop :=
  ∀ (s : State) (h : InHand) (rest : List RawItem) (o : Origin) (slab : Option Nat) (id : Nat) (sl : Slab),
    Ready s (.discard slab) .stock h rest o → orContext slab o.ctx.slab = some id → slabRange id = true →
    s.slab? id = some sl → sl.state = .stocked →
    ∃ t, exec (.discard slab) s = .next t ∧ t.slab? id = none ∧ (∀ k, k ≠ id → t.slab? k = s.slab? k) ∧
      t.stock.recency = s.stock.recency.filter (· != id) ∧
      t.job 0 = (match sl.basis with
        | none => s.job 0
        | some b => (s.job 0).charged
            { material := (sl.length * sl.width * b + 500000) / 1000000, tool := 0, water := 0, time := 0, pieces := 0,
              flawed := 0, outOfTol := 0 }) ∧
      (∀ n, n ≠ 0 → t.job n = s.job n) ∧ Answered s t h rest ⟨.ok, []⟩ ∧
      Unchanged [.stock, .cost, .entries, .gate, .floor, .reports] s t ∧
      t.stock.nextId = s.stock.nextId ∧ t.stock.minWidth = s.stock.minWidth ∧ t.stock.minLength = s.stock.minLength ∧
      ∃ u, t = replied u h rest .ok [] ∧
        (s.alarms.reports.length < 64 → ∃ more, u.alarms.reports = s.alarms.reports ++
          { body := .stock .removed id, time := s.seconds, gap := s.alarms.gapNoted } :: more) ∧
        (64 ≤ s.alarms.reports.length → u.alarms.reports = s.alarms.reports ∧ u.alarms.gapNoted = true)

/-- O21. FIND REMNANT chooses the candidate of the smallest area, the nearest to the head of the recency order among equals, and touches it (R14, R12, R159). -/
def Obligations.FindRemnantChoosesTheSmallest : Prop :=
  ∀ (s : State) (h : InHand) (rest : List RawItem) (o : Origin) (l w : Nat) (lot : Option Nat),
    Ready s (.findRemnant l w lot) .stock h rest o → 1 ≤ l → l ≤ 3600 → 1 ≤ w → w ≤ 2100 →
    lot.all (· ≤ 255) = true →
    ∃ t, exec (.findRemnant l w lot) s = .next t ∧ t.stock.slabs = s.stock.slabs ∧ Unchanged [.stock] s t ∧
      ((s.candidates l w lot = [] ∧ t.stock = s.stock ∧ Answered s t h rest ⟨.ok, be1 0⟩) ∨
        ∃ sl ∈ s.candidates l w lot, (∀ q ∈ s.candidates l w lot, sl.length * sl.width ≤ q.length * q.width) ∧
          (∀ q ∈ s.candidates l w lot, q.length * q.width = sl.length * sl.width →
            s.stock.recency.idxOf sl.id ≤ s.stock.recency.idxOf q.id) ∧
          sl.state = .stocked ∧ l ≤ sl.length ∧ w ≤ sl.width ∧
          t.stock.recency = sl.id :: s.stock.recency.filter (· != sl.id) ∧
          Answered s t h rest ⟨.ok, be1 1 ++ be4 sl.id⟩)

/-- O22. REMNANT LIMITS and TOLERANCE set their limits in range or are refused (R15, R41). -/
def Obligations.LimitItemsAreSetOrRefused : Prop :=
  (∀ (s : State) (h : InHand) (rest : List RawItem) (o : Origin) (w l : Nat),
     Ready s (.remnantLimits w l) .stock h rest o →
     exec (.remnantLimits w l) s = .next
       (if 100 ≤ w ∧ w ≤ 2100 ∧ 100 ≤ l ∧ l ≤ 3600 then
         replied { s with stock := { s.stock with minWidth := w, minLength := l } } h rest .ok []
       else replied s h rest .badValue [])) ∧
  (∀ (s : State) (h : InHand) (rest : List RawItem) (o : Origin) (mm : Nat), Ready s (.tolerance mm) .plan h rest o →
     exec (.tolerance mm) s = .next
       (if mm ≤ 20 then replied { s with plans := { s.plans with tolerance := mm } } h rest .ok []
       else replied s h rest .badValue []))

/-- O23. A reader's SCAN creates an unknown slab, updates a known one, or is NAKed by a full table (R3, R4, R5, R133, R139, R140). -/
def Obligations.ScanOfAReaderReachesTheStock : Prop :=
  ∀ (s : State) (a : Nat) (e : Bool) (st : Station) (d : ScanData), s.quiet = true → s.line.receiving = some true →
    s.line.holder = .tx { kind := .poll, address := a, phase := .window e } → s.station? a = some st →
    st.kind = .reader →
    ∃ t, exec (.scanAnswer a d.tag d.lot d.length d.width d.thickness d.zones) s = .next t ∧
      t.line.holder = .tx { kind := .poll, address := a, phase := .closing .unanswered } ∧ t.line.receiving = none ∧
      (t.station? a).map Station.link = some .up ∧ (t.station? a).map Station.failures = some 0 ∧
      t.cutting = s.cutting ∧ t.cost = s.cost ∧
      (d.inRange = false → t.stock = s.stock ∧ t.plans = s.plans ∧ t.line.out = some (ackFrame a true)) ∧
      (d.inRange = true → s.slab? d.tag = none → s.stock.slabs.length < 256 →
        t.slab? d.tag = some
          { id := d.tag, lot := d.lot, length := d.length, width := d.width, thickness := d.thickness, basis := none,
            state := .stocked, remnant := none, zones := d.zones, geom := { y0 := 0, wr := d.width, strips := [] } } ∧
        (∀ k, k ≠ d.tag → t.slab? k = s.slab? k) ∧ t.line.out = some (ackFrame a true)) ∧
      (d.inRange = true → s.slab? d.tag = none → 256 ≤ s.stock.slabs.length →
        t.stock = s.stock ∧ t.line.out = some (ackFrame a false) ∧
        t.alarms.entries = (s.alarms.raised .stockFull a s.seconds).1) ∧
      (∀ sl, d.inRange = true → s.slab? d.tag = some sl →
        t.slab? d.tag = some { sl with zones := d.zones.filterMap fun z => zoneClip z sl.length sl.width } ∧
        (∀ k, k ≠ d.tag → t.slab? k = s.slab? k) ∧ t.line.out = some (ackFrame a true))

/-- O24. PLAN LOAD, PLAN CLEAR, SKIP and VERDICT act on the plan and the step they name (R36, R20, R28, R159, R37, R38, R39, R40). -/
def Obligations.PlanItemsActOnThePlan : Prop :=
  (∀ (s : State) (h : InHand) (rest : List RawItem) (o : Origin) (slab : Option Nat) (kerf id : Nat)
     (steps : List RawStep) (l : List Step) (sl : Slab), Ready s (.planLoad slab kerf steps) .plan h rest o →
     orContext slab o.ctx.slab = some id → (steps.all fun r => (stepJob r o.ctx).isSome) = true →
     1 ≤ kerf → kerf ≤ 10 → loadedSteps o.ctx steps = some l → s.slab? id = some sl → sl.state ≠ .stocked →
     (s.plan? id).any Plan.begun = false → (l.all fun st => s.jobOpen st.job) = true →
     ((s.plan? id).isSome = true ∨ s.plans.plans.length < 32) →
     let t := (s.putPlan { slab := id, loadKerf := kerf, steps := l }).project id
     exec (.planLoad slab kerf steps) s =
       .next (replied t h rest .ok (be1 (t.stepCount id .flagged) ++ be1 (t.stepCount id .blocked)))) ∧
  (∀ (s : State) (h : InHand) (rest : List RawItem) (o : Origin) (slab : Option Nat) (id n : Nat) (sl : Slab) (p : Plan)
     (st : Step), orContext slab o.ctx.slab = some id → slabRange id = true → s.slab? id = some sl →
     s.plan? id = some p → stepRange n = true → p.step? n = some st →
     (Ready s (.planClear slab) .plan h rest o → p.begun = false →
       exec (.planClear slab) s = .next (replied (s.dropPlan id) h rest .ok [])) ∧
     (Ready s (.skip slab n) .plan h rest o → st.state.skippable = true →
       exec (.skip slab n) s = .next (replied (s.skipStep id n) h rest .ok [])) ∧
     (Ready s (.verdict slab n 1) .plan h rest o → st.state = .flagged ∨ st.state = .unresolved →
       exec (.verdict slab n 1) s = .next (replied (s.giveBack id n) h rest .ok [])) ∧
     (Ready s (.verdict slab n 2) .plan h rest o → st.state = .flagged →
       exec (.verdict slab n 2) s = .next (replied (s.acceptFlaw id n) h rest .ok [])) ∧
     (Ready s (.verdict slab n 2) .plan h rest o → st.state = .unresolved →
       exec (.verdict slab n 2) s = .next (replied (s.acceptUnresolved id st) h rest .ok [])) ∧
     (Ready s (.verdict slab n 3) .plan h rest o → st.state = .flagged ∨ st.state = .unresolved →
       exec (.verdict slab n 3) s = .next (replied (s.skipStep id n) h rest .ok [])))

/-- O25. A step that SKIP gives up is SKIPPED after the projection and keeps its progress (R38, R21, R26). -/
def Obligations.SkippedStepStaysSkipped : Prop :=
  ∀ (s : State) (h : InHand) (rest : List RawItem) (o : Origin) (slab : Option Nat) (id n : Nat) (sl : Slab) (p : Plan)
    (st : Step), Ready s (.skip slab n) .plan h rest o → orContext slab o.ctx.slab = some id →
    slabRange id = true → s.slab? id = some sl → s.plan? id = some p → stepRange n = true → p.step? n = some st →
    st.state.skippable = true →
    ∃ t q r, exec (.skip slab n) s = .next t ∧ t.plan? id = some q ∧ q.step? n = some r ∧ r.state = .skipped ∧
      r.done = st.done ∧ r.stored = st.stored ∧ r.accepted = st.accepted ∧
      (∀ k, (q.step? k).isSome = (p.step? k).isSome) ∧ Answered s t h rest ⟨.ok, []⟩ ∧ Unchanged [.plans] s t

/-- O26. The projection changes only the state of open steps and the planned geometry (R21, R26, R27). -/
def Obligations.ProjectionKeepsProgress : Prop :=
  ∀ (length kerf : Nat) (zones : List Zone) (g : Geometry) (steps : List Step),
    (projectSteps length kerf zones g steps).length = steps.length ∧
    ∀ (i : Nat) (a b : Step), steps[i]? = some a → (projectSteps length kerf zones g steps)[i]? = some b →
      b.number = a.number ∧ b.job = a.job ∧ b.strip = a.strip ∧ b.cut = a.cut ∧ b.accepted = a.accepted ∧
      b.done = a.done ∧ b.stored = a.stored ∧
      ((a.state = .done ∨ a.state = .skipped ∨ a.state = .issued ∨ a.state = .unresolved) → b.state = a.state) ∧
      ((a.state = .pending ∨ a.state = .flagged ∨ a.state = .blocked ∨ a.state = .partly) →
        b.state = a.openState ∨ b.state = .flagged ∨ b.state = .blocked)

/-- O27. Every length consumed takes exactly its stored length and kerf from what remains (R22, R24, R32). -/
def Obligations.StoneIsConserved : Prop :=
  (∀ (st : Strip) (side : Side) (a kerf : Nat), st.near ≤ st.far →
    (st.consume side a kerf).near ≤ (st.consume side a kerf).far ∧
      storedOf a st.remaining + kerfOf a kerf st.remaining + (st.consume side a kerf).remaining = st.remaining) ∧
  (∀ (g : Geometry) (length k w kerf : Nat),
    (g.rip length k w kerf).y0 + (g.rip length k w kerf).wr = g.y0 + g.wr ∧
      storedOf w g.wr + kerfOf w kerf g.wr + (g.rip length k w kerf).wr = g.wr)

/-- O28. LOAD puts a RESERVED slab onto an IDLE cutter's bed, and UNLOAD clears it by the unload sequence (R51, R11, R45, R52, R16, R58, R159). -/
def Obligations.LoadAndUnloadMoveTheSlab : Prop :=
  (∀ (s : State) (h : InHand) (rest : List RawItem) (o : Origin) (slab number job : Option Nat) (id n j : Nat) (c : Cutter)
     (sl : Slab), Ready s (.load slab number job) .work h rest o → orContext slab o.ctx.slab = some id →
     orContext number o.ctx.onCutter = some n → orContext job o.ctx.job = some j → cutterRange n = true → j ≤ 63 →
     s.cutter? n = some c → s.slab? id = some sl → c.state = .idle → sl.state = .reserved j →
     ∃ t, exec (.load slab number job) s = .next t ∧ t.slab? id = some { sl with state := .onBed j n } ∧
       (∀ k, k ≠ id → t.slab? k = s.slab? k) ∧ t.cutter? n = some { c with state := .loaded, slab := some id } ∧
       (∀ k, k ≠ n → t.cutter? k = s.cutter? k) ∧ t.cutting.records = s.cutting.records ∧
       t.stock.recency = s.stock.recency ∧ Answered s t h rest ⟨.ok, []⟩ ∧
       Unchanged [.stock, .cutting, .plans] s t) ∧
  (∀ (s : State) (h : InHand) (rest : List RawItem) (o : Origin) (number : Option Nat) (n id : Nat) (c : Cutter),
     Ready s (.unload number) .work h rest o → orContext number o.ctx.onCutter = some n → cutterRange n = true →
     s.cutter? n = some c → c.state = .loaded → c.slab = some id →
     ((s.stepsOf id).any fun st => st.state == .unresolved) = false →
     ∃ t, exec (.unload number) s = .next t ∧ t.plan? id = none ∧ (∀ k, k ≠ id → t.plan? k = s.plan? k) ∧
       t.cutter? n = some { c with state := .idle, slab := none, uncertain := [] } ∧
       (∀ k, k ≠ n → t.cutter? k = s.cutter? k) ∧ t.cutting.records = s.cutting.records ∧
       Answered s t h rest ⟨.ok, be1 ((s.stepsOf id).countP fun st => st.state.discarded)⟩ ∧
       Unchanged [.stock, .plans, .cutting, .cost, .gate, .entries, .floor, .reports] s t ∧
       ∀ (sl : Slab) (j : Nat), s.slab? id = some sl → sl.state.job = some j →
         t = replied (((s.dropPlan id).unloadSequence sl j).putCutter
           { c with state := .idle, slab := none, uncertain := [] }) h rest .ok
           (be1 ((s.stepsOf id).countP fun st => st.state.discarded)))

/-- O29. The unload sequence removes the slab, keeps a large enough rip front as a remnant, evicting one from a full rack, and charges the rest (R16, R17, R18, R12, R13, R88). -/
def Obligations.UnloadSequenceMakesARemnant : Prop :=
  ∀ (s : State) (sl : Slab) (job : Nat), s.slab? sl.id = some sl →
    let u := s.dropSlab sl.id
    let v := u.stockReport .removed sl.id
    let t := s.unloadSequence sl job
    let kept := s.stock.minWidth ≤ sl.geom.wr ∧ s.stock.minLength ≤ sl.length
    let stone := fun (j : Job) (area basis : Nat) => j.charged
      { material := (area * basis + 500000) / 1000000, tool := 0, water := 0, time := 0, pieces := 0, flawed := 0,
        outOfTol := 0 }
    let scrapped := fun (j : Job) (area : Nat) => if area = 0 then j else stone j area (sl.basis.getD 0)
    let makes := fun (w : State) (slot : Nat) =>
      t.slab? w.freeId = some
        { id := w.freeId, lot := sl.lot, length := sl.length, width := sl.geom.wr, thickness := sl.thickness,
          basis := sl.basis, state := .stocked, remnant := some { parent := sl.id, slot := slot },
          zones := carriedZones sl, geom := { y0 := 0, wr := sl.geom.wr, strips := [] } } ∧
      (∀ k, k ≠ w.freeId → t.slab? k = w.slab? k) ∧ t.stock.recency = w.freeId :: w.stock.recency ∧
      t.stock.nextId = idAfter w.freeId
    let evictable := fun k : Nat => ∃ q, u.slab? k = some q ∧ q.state = .stocked ∧ q.remnant.isSome = true
    (∀ slot, kept → lowestFree u.usedSlots 24 = some slot →
      makes u slot ∧ t.job job = scrapped (s.job job) (stripScrap sl) ∧
        t = (v.createRemnant sl slot).chargeScrap sl job (stripScrap sl)) ∧
    (∀ (e : Slab) (parent slot : Nat) (nearer farther : List Nat), kept → lowestFree u.usedSlots 24 = none →
      u.slab? e.id = some e → e.state = .stocked → e.remnant = some { parent := parent, slot := slot } →
      u.stock.recency = nearer ++ e.id :: farther → (∀ k ∈ farther, ¬evictable k) →
      let paid := fun n => if n = 0 then stone (s.job 0) (e.length * e.width) (e.basis.getD 0) else s.job n
      makes (u.dropSlab e.id) slot ∧ t.job job = scrapped (paid job) (stripScrap sl) ∧
        (job ≠ 0 → t.job 0 = paid 0) ∧
        t = ((((((v.dropSlab e.id).chargeStone 0 (e.length * e.width) (e.basis.getD 0)).raise .remnantScrapped
          e.id).stockReport .remnantScrapped e.id).createRemnant sl slot).chargeScrap sl job (stripScrap sl))) ∧
    (kept → lowestFree u.usedSlots 24 = none → (∀ k ∈ u.stock.recency, ¬evictable k) →
      t.stock = u.stock ∧ t.job job = scrapped (s.job job) (stripScrap sl + sl.geom.wr * sl.length) ∧
        t = (v.raise .remnantScrapped sl.id).chargeScrap sl job (stripScrap sl + sl.geom.wr * sl.length)) ∧
    (¬kept →
      t.stock = u.stock ∧ t.job job = scrapped (s.job job) (stripScrap sl + sl.geom.wr * sl.length) ∧
        t = v.chargeScrap sl job (stripScrap sl + sl.geom.wr * sl.length))

/-- O30. TOOL CHANGE renews the tool of a cutter that is not WORKING (R53). -/
def Obligations.ToolChangeRenewsTheTool : Prop :=
  ∀ (s : State) (h : InHand) (rest : List RawItem) (o : Origin) (number : Option Nat),
    Ready s (.toolChange number) .work h rest o →
    ∃ t, exec (.toolChange number) s = .next t ∧
      match orContext number o.ctx.onCutter with
      | none => Answered s t h rest ⟨.noContext, []⟩ ∧ Unchanged [] s t
      | some n =>
        if 1 ≤ n ∧ n ≤ 8 then
          match s.cutter? n with
          | none => Answered s t h rest ⟨.noSuch, []⟩ ∧ Unchanged [] s t
          | some c =>
            if c.state = .working then Answered s t h rest ⟨.wrongState, []⟩ ∧ Unchanged [] s t
            else
              t.cutter? n = some { c with life := c.settings.newLife } ∧
                (1 ≤ c.settings.newLife → (t.cutter? n).map Cutter.toolState = some .good) ∧
                (∀ k, k ≠ n → t.cutter? k = s.cutter? k) ∧ t.cutting.records = s.cutting.records ∧
                t.cutting.lastId = s.cutting.lastId ∧ Answered s t h rest ⟨.ok, []⟩ ∧ Unchanged [.cutting] s t
        else Answered s t h rest ⟨.badValue, []⟩ ∧ Unchanged [] s t

/-- O31. CLEAR FAULT returns a FAULTED cutter to LOADED or IDLE and keeps the rest (R54, R45). -/
def Obligations.ClearFaultReturnsTheCutter : Prop :=
  ∀ (s : State) (h : InHand) (rest : List RawItem) (o : Origin) (number : Option Nat) (n : Nat) (c : Cutter),
    Ready s (.clearFault number) .work h rest o → orContext number o.ctx.onCutter = some n → cutterRange n = true →
    s.cutter? n = some c →
    ∃ t, exec (.clearFault number) s = .next t ∧
      (c.state = .faulted → t.cutter? n = some { c with state := if c.slab = none then .idle else .loaded } ∧
        (∀ k, k ≠ n → t.cutter? k = s.cutter? k) ∧ t.cutting.records = s.cutting.records ∧
        Answered s t h rest ⟨.ok, []⟩ ∧ Unchanged [.cutting] s t) ∧
      (c.state ≠ .faulted → Answered s t h rest ⟨.wrongState, []⟩ ∧ Unchanged [] s t)

/-- O32. CUT that passes its checks makes a record and forwards it or places it on the waiting list (R59, R60, R55, R124, R122). -/
def Obligations.CutIsAccepted : Prop :=
  ∀ (s : State) (h : InHand) (rest : List RawItem) (o : Origin) (number : Nat) (slab onCutter job : Option Nat)
    (id n j k : Nat) (c : Cutter) (sl : Slab) (p : Plan) (st : Step),
    Ready s (.cut number slab onCutter job) .work h rest o → orContext slab o.ctx.slab = some id →
    orContext onCutter o.ctx.onCutter = some n → orContext job o.ctx.job = some j → stepRange number = true →
    cutterRange n = true → jobRange j = true → s.cutter? n = some c → s.slab? id = some sl → s.plan? id = some p →
    p.step? number = some st → sl.state.onCutter = some n → p.inOrder st = true →
    (st.state = .pending ∨ st.state = .partly) → st.job = j → s.jobOpen j = true →
    s.alarms.stops .jobStop j = false → s.alarms.stops .cutterStop n = false → c.state ≠ .faulted →
    c.toolState ≠ .worn → c.slots.length < 2 → s.poolId c = some k →
    let u := (((s.setCutting { s.cutting with lastId := k }).putRecord (cutRecord k c sl st)).putCutter
      { c with slots := c.slots ++ [k], state := if c.state = .loaded then .working else c.state }).issueStep id number
    (s.gate.waiting = [] → u.startGate (cutRecord k c sl st) = true →
      exec (.cut number slab onCutter job) s =
        .next (replied (u.forward (cutRecord k c sl st)) h rest .ok (be1 k))) ∧
    (s.gate.waiting ≠ [] ∨ u.startGate (cutRecord k c sl st) = false →
      exec (.cut number slab onCutter job) s =
        .next (replied (u.setGate { s.gate with waiting := s.gate.waiting ++ [k] }) h rest .held (be1 k)))

/-- O33. CUT is refused while the tool is WORN or an alarm stops its cutter or its job (R59, R47, R168, R166). -/
def Obligations.CutRefusedForWornOrStopped : Prop :=
  ∀ (s : State) (h : InHand) (rest : List RawItem) (o : Origin) (number : Nat) (slab onCutter job : Option Nat)
    (id n j : Nat) (c : Cutter) (sl : Slab) (p : Plan) (st : Step),
    Ready s (.cut number slab onCutter job) .work h rest o → orContext slab o.ctx.slab = some id →
    orContext onCutter o.ctx.onCutter = some n → orContext job o.ctx.job = some j → stepRange number = true →
    cutterRange n = true → jobRange j = true → s.cutter? n = some c → s.slab? id = some sl → s.plan? id = some p →
    p.step? number = some st → sl.state.onCutter = some n → p.inOrder st = true →
    (st.state = .pending ∨ st.state = .partly) → st.job = j → s.jobOpen j = true →
    (s.alarms.stops .jobStop j = true ∨ s.alarms.stops .cutterStop n = true ∨ c.state = .faulted ∨
      c.toolState = .worn) →
    ∃ t, exec (.cut number slab onCutter job) s = .next t ∧ Unchanged [] s t ∧
      Answered s t h rest
        ⟨if s.alarms.stops .jobStop j = true then .jobStopped
          else if s.alarms.stops .cutterStop n = true then .cutterStopped
          else if c.state = .faulted then .wrongState else .toolWorn, []⟩

/-- O34. ABORT ends the WAITING records of a cutter and flags the others (R73, R57, R136; that the WAITING records end in slot order is log entry 33). -/
def Obligations.AbortFlagsAndEnds : Prop :=
  ∀ (s : State) (h : InHand) (rest : List RawItem) (o : Origin) (number : Option Nat) (n : Nat) (c : Cutter),
    Ready s (.abort number) .work h rest o → orContext number o.ctx.onCutter = some n → cutterRange n = true →
    s.cutter? n = some c →
    exec (.abort number) s = .next (replied (s.aborted c) h rest .ok []) ∧
      (∀ id r q, s.record? id = some r → r.onCutter = n → r.state.sentOrLater = true →
        (s.aborted c).record? id = some q → q.abortFlag = true) ∧
      (∀ id ∈ c.slots, ∀ r, s.record? id = some r → r.state = .waiting → (s.aborted c).record? id = none) ∧
      (c.slots = [] → (s.cutting.records.any fun r => r.onCutter == n) = false → s.aborted c = s)

/-- O35. CUTTER defines a new cutter or replaces the settings of an IDLE one; bound to another address, it is noted in the broadcast in progress (R48, R43, R46, R142, log entries 14, 32). The note (`Broadcast.rebound`) is the model's own, and so is that the kind of an IDLE cutter is replaced (log entry 32). -/
def Obligations.CutterIsDefinedOrChanged : Prop :=
  ∀ (s : State) (h : InHand) (rest : List RawItem) (o : Origin) (n a : Nat) (kind : CutterKind) (st : CutterSettings),
    let i : Instr := .cutter n a kind.code st.kerf st.overcut st.feed st.draw st.overhead st.limit st.machineRate
      st.toolRate st.newLife
    Ready s i .table h rest o → cutterRange n = true → addressRange a = true → st.inRange = true →
    (s.cutting.cutters.any fun c => c.address == a && c.number != n) = false →
    ∃ t, exec i s = .next t ∧
      (s.cutter? n = none → t.cutter? n = some
        { number := n, address := a, kind := kind, settings := st, life := st.newLife, state := .idle, slab := none,
          slots := [], holdMark := false, lastTaken := none, uncertain := [] } ∧ Answered s t h rest ⟨.ok, []⟩ ∧
        (∀ k, k ≠ n → t.cutter? k = s.cutter? k) ∧ Unchanged [.cutting] s t) ∧
      (∀ c, s.cutter? n = some c → c.state = .idle → t.cutter? n = some
        { c with address := a, kind := kind, settings := st, life := min c.life st.newLife,
                 holdMark := c.holdMark && decide (a = c.address) } ∧ Answered s t h rest ⟨.ok, []⟩ ∧
        (∀ k, k ≠ n → t.cutter? k = s.cutter? k) ∧ Unchanged [.cutting, .floor] s t ∧
        (s.line.holder ≠ .free → t.water.engine = s.water.engine ∧ t.line = (if a = c.address then s.line
          else { s.line with
            broadcast := s.line.broadcast.map fun b => { b with rebound := b.rebound.insert n } }))) ∧
      (∀ c, s.cutter? n = some c → c.state ≠ .idle →
        Answered s t h rest ⟨.wrongState, []⟩ ∧ Unchanged [] s t)

/-- O36. CUTTER with the remove mark removes an IDLE cutter and frees its address (R49, R142, log entry 14). That a broadcast in progress notes the removal (`Broadcast.removed`) is the model's own way to keep R142, marked in log entry 14. -/
def Obligations.CutterRemovalFreesItsAddress : Prop :=
  ∀ (s : State) (h : InHand) (rest : List RawItem) (o : Origin) (n : Nat), Ready s (.cutterRemove n) .table h rest o →
    ∃ t, exec (.cutterRemove n) s = .next t ∧
      if 1 ≤ n ∧ n ≤ 8 then
        match s.cutter? n with
        | none => Answered s t h rest ⟨.noSuch, []⟩ ∧ Unchanged [] s t
        | some c =>
          if c.state = .idle then
            t.cutter? n = none ∧ (∀ k, k ≠ n → t.cutter? k = s.cutter? k) ∧
              ((∀ d ∈ s.cutting.cutters, d.address = c.address → d.number = n) → t.cutterAt c.address = none) ∧
              t.cutting.records = s.cutting.records ∧ t.alarms.entries = s.alarms.entries ∧
              Answered s t h rest ⟨.ok, []⟩ ∧ Unchanged [.cutting, .floor] s t ∧
              (s.line.holder ≠ .free → t.water.engine = s.water.engine ∧ t.line = { s.line with
                broadcast := s.line.broadcast.map fun b => { b with removed := b.removed.insert n } })
          else Answered s t h rest ⟨.wrongState, []⟩ ∧ Unchanged [] s t
      else Answered s t h rest ⟨.badValue, []⟩ ∧ Unchanged [] s t

/-- O37. SCAN LIST, SCAN START and SCAN STOP drive the scan engine (R103, R104, R106, R102). -/
def Obligations.ScanItemsDriveTheEngine : Prop :=
  ∀ (s : State) (h : InHand) (rest : List RawItem) (o : Origin),
    (∀ l, Ready s (.scanList l) .water h rest o → l ≠ [] → l.length ≤ 16 → (∀ n ∈ l, n ≤ 15) → l.Nodup →
      (∀ n ∈ l, (s.channel? n).isSome = true) → s.water.engine.mode = none →
      exec (.scanList l) s = .next
        (replied (s.setEngine { s.water.engine with scanList := l, position := none }) h rest .ok [])) ∧
    (∀ n, Ready s (.scanStart 1 (some n)) .water h rest o → n ≤ 15 → (s.channel? n).isSome = true →
      s.water.engine.mode = none →
      exec (.scanStart 1 (some n)) s = .next
        (replied (s.setEngine { s.water.engine with
          mode := some .single, single := some n, position := none,
          run := (s.water.engine.run + 1) % 256, due := true }) h rest .ok [])) ∧
    (Ready s (.scanStart 2 none) .water h rest o → s.water.engine.mode = none → s.water.engine.scanList ≠ [] →
      exec (.scanStart 2 none) s = .next
        (replied (s.setEngine { s.water.engine with
          mode := some .sweep, single := none, position := some 1,
          run := (s.water.engine.run + 1) % 256, due := true }) h rest .ok [])) ∧
    (Ready s (.scanStart 3 none) .water h rest o → s.water.engine.mode = none → s.water.engine.scanList ≠ [] →
      exec (.scanStart 3 none) s = .next
        (replied (s.setEngine { s.water.engine with
          mode := some .continuous, single := none, position := some 1,
          run := (s.water.engine.run + 1) % 256, lastPassEnd := none, due := true }) h rest .ok [])) ∧
    (Ready s (.scanStart 2 none) .water h rest o → s.water.engine.mode ≠ none →
      exec (.scanStart 2 none) s = .next (replied s h rest .busy [])) ∧
    (∀ n, Ready s (.scanStart 1 (some n)) .water h rest o → n ≤ 15 → (s.channel? n).isSome = true →
      s.water.engine.mode ≠ none → exec (.scanStart 1 (some n)) s = .next (replied s h rest .busy [])) ∧
    (Ready s (.scanStart 3 none) .water h rest o → s.water.engine.mode ≠ none →
      exec (.scanStart 3 none) s = .next (replied s h rest .busy [])) ∧
    (Ready s .scanStop .water h rest o → s.water.engine.mode ≠ none →
      exec .scanStop s = .next
        (replied (s.setEngine { s.water.engine with
          mode := none, single := none, position := none, due := false,
          lastPassEnd := none }) h rest .ok [])) ∧
    (Ready s .scanStop .water h rest o → s.water.engine.mode = none →
      exec .scanStop s = .next (replied s h rest .ok []))

/-- O38. CHANNEL, its removal and CHANNEL LIMITS rewrite the channel table (R96, R97, R98, R99, R100). -/
def Obligations.ChannelItemsRewriteTheTable : Prop :=
  ∀ (s : State) (h : InHand) (rest : List RawItem) (o : Origin) (n a x : Nat) (k : ChannelKind) (low high : Option Nat),
    channelRange n = true → ordered low high = true →
    (Ready s (.channel n a x k.code low high) .table h rest o → addressRange a = true → x ≤ 3 →
      k.admits low high = true →
      (s.water.channels.any fun ch => ch.address == a && ch.index == x && ch.number != n) = false →
      s.stationIs a .node = true → s.water.engine.scans n = false →
      (s.channel? n = none → s.gate.roleOf n = none →
        ∃ t, exec (.channel n a x k.code low high) s = .next t ∧
          t.channel? n = some { number := n, address := a, index := x, kind := k, low := low, high := high,
                                reading := none, compare := .none, stale := true, fault := false } ∧
          (∀ m, m ≠ n → t.channel? m = s.channel? m) ∧ Answered s t h rest ⟨.ok, []⟩ ∧ Unchanged [.channels] s t) ∧
      (∀ ch, s.channel? n = some ch → ch.address = a → ch.index = x → ch.kind = k →
        ∃ t, exec (.channel n a x k.code low high) s = .next t ∧
          t.channel? n = some { ch with low := low, high := high, compare := compareOf low high ch.reading } ∧
          (∀ m, m ≠ n → t.channel? m = s.channel? m) ∧ Answered s t h rest ⟨.ok, []⟩ ∧
          t.alarms.entries = (if entersOutside ch.compare (compareOf low high ch.reading)
            then (s.alarms.raised .channelLimit n s.seconds).1 else s.alarms.entries) ∧
          Unchanged [.channels, .entries, .gate, .floor, .reports] s t) ∧
      (∀ ch, s.channel? n = some ch → ¬(ch.address = a ∧ ch.index = x ∧ ch.kind = k) →
        ∃ t, exec (.channel n a x k.code low high) s = .next t ∧
          (s.gate.roleOf n = none ∨ ch.kind = k →
            t.channel? n = some { number := n, address := a, index := x, kind := k, low := low, high := high,
                                  reading := none, compare := .none, stale := true, fault := false } ∧
            (∀ m, m ≠ n → t.channel? m = s.channel? m) ∧ Answered s t h rest ⟨.ok, []⟩ ∧
            t.alarms.entries = (if ch.stale = false ∧ (s.gate.roleOf n).isSome = true
              then (s.alarms.raised .channelStale n s.seconds).1 else s.alarms.entries) ∧
            Unchanged [.channels, .entries, .gate, .floor, .reports] s t) ∧
          (s.gate.roleOf n ≠ none → ch.kind ≠ k →
            Answered s t h rest ⟨.wrongState, []⟩ ∧ Unchanged [] s t))) ∧
    (Ready s (.channelRemove n) .table h rest o → (s.channel? n).isSome = true → s.water.engine.scans n = false →
      n ∉ s.water.engine.scanList → s.gate.roleOf n = none →
      ∃ t, exec (.channelRemove n) s = .next t ∧ t.channel? n = none ∧ (∀ m, m ≠ n → t.channel? m = s.channel? m) ∧
        Answered s t h rest ⟨.ok, []⟩ ∧ Unchanged [.channels] s t) ∧
    (∀ ch, Ready s (.channelLimits n low high) .water h rest o → s.channel? n = some ch →
      ch.kind.admits low high = true →
      ∃ t, exec (.channelLimits n low high) s = .next t ∧
        t.channel? n = some { ch with low := low, high := high, compare := compareOf low high ch.reading } ∧
        (∀ m, m ≠ n → t.channel? m = s.channel? m) ∧ Answered s t h rest ⟨.ok, []⟩ ∧
        t.alarms.entries = (if entersOutside ch.compare (compareOf low high ch.reading)
          then (s.alarms.raised .channelLimit n s.seconds).1 else s.alarms.entries) ∧
        Unchanged [.channels, .entries, .gate, .floor, .reports] s t)

/-- O39. WATER ROLES and WATER MARKS replace what they set and evaluate the gate once, by the item rule of the critical latch (R113, R114, R115, R116, R117). -/
def Obligations.RolesAndMarksEvaluateTheGate : Prop :=
  (∀ (s : State) (h : InHand) (rest : List RawItem) (o : Origin),
    (∀ a b c d : Option Nat, Ready s (.waterRoles a b c d) .water h rest o →
      (([a, b, c, d].filterMap id).all fun n => decide (n ≤ 15)) = true → ([a, b, c, d].filterMap id).Nodup →
      (([a, b, c, d].filterMap id).all fun n => (s.channel? n).isSome) = true → s.roleKind a .level = true →
      s.roleKind b .turbidity = true → s.roleKind c .flow = true → s.roleKind d .flow = true →
      exec (.waterRoles a b c d) s = .next (replied (s.setGate { s.gate with
        level := a, turbidity := b, returnFlow := c, makeup := d,
        makeupRef := if d = s.gate.makeup then s.gate.makeupRef else none }).waterItem h rest .ok [])) ∧
    (∀ low critical resume limit turb : Nat,
      Ready s (.waterMarks low critical resume limit turb) .water h rest o →
      exec (.waterMarks low critical resume limit turb) s = .next
        (if low ≤ 65535 ∧ critical ≤ 65535 ∧ resume ≤ 65535 ∧ limit ≤ 10000 ∧ turb ≤ 10000 ∧ critical < resume ∧
            critical < low ∧ limit ≤ turb then
          replied (s.setGate { s.gate with marks := ⟨low, critical, resume, limit, turb⟩ }).waterItem h rest .ok []
        else replied s h rest .badValue []))) ∧
  (∀ s : State,
    let t := s.waterItem
    let level := s.gate.level.bind s.channel?
    let turbidity := s.gate.turbidity.bind s.channel?
    let low := level.any fun q => q.reading.any fun r => decide (r.value < s.gate.marks.critical)
    let murky := turbidity.any fun q => q.reading.any fun r => decide (s.gate.marks.turbCritical < r.value)
    let clears := (level.any fun q => !q.stale && q.reading.any fun r => decide (s.gate.marks.resume ≤ r.value)) &&
      turbidity.any fun q => !q.stale && q.reading.any fun r => decide (r.value ≤ s.gate.marks.turbLimit)
    (low = true ∨ murky = true →
      t.gate.latch = true ∧ t.alarms.entries = (if s.gate.latch then s.alarms.entries
        else (s.alarms.raised .waterCritical ((if low then s.gate.level else s.gate.turbidity).getD 0) s.seconds).1)) ∧
    (low = false → murky = false →
      t.gate.latch = (s.gate.latch && !clears) ∧ t.alarms.entries = s.alarms.entries) ∧
    t.gate.lineHold = (t.gate.latch || t.gate.alarmSource || s.gate.officeHold))

/-- O40. LINE HOLD and LINE RELEASE move the office's own source of line hold (R118). -/
def Obligations.OfficeHoldIsItsOwnSource : Prop :=
  ∀ (s : State) (h : InHand) (rest : List RawItem) (o : Origin), LineHoldFollows s →
    (Ready s .lineHold .water h rest o →
      ∃ t, exec .lineHold s = .next t ∧ t.gate.officeHold = true ∧ t.gate.lineHold = true ∧
        Answered s t h rest ⟨.ok, []⟩ ∧ (s.gate.officeHold = true → Unchanged [] s t) ∧
        Unchanged [.gate, .floor, .reports] s t) ∧
    (Ready s .lineRelease .water h rest o →
      ∃ t, exec .lineRelease s = .next t ∧ t.gate.officeHold = false ∧
        t.gate.lineHold = (s.gate.latch || s.gate.alarmSource) ∧ Answered s t h rest ⟨.ok, []⟩ ∧
        (s.gate.officeHold = false → Unchanged [] s t) ∧
        (s.gate.latch = true ∨ s.gate.alarmSource = true →
          t.gate = { s.gate with officeHold := false } ∧ Unchanged [.gate] s t ∧
            t = replied (s.setGate { s.gate with officeHold := false }) h rest .ok []))

/-- O41. While line hold is ON no record is forwarded from the waiting list (R117, R122, R125). -/
def Obligations.HoldClosesTheStartGate : Prop :=
  ∀ s : State, s.gate.lineHold = true → (∀ r : CutRecord, s.startGate r = false) ∧ s.reevaluate = s

/-- O42. A VALUE is ACKed, and dealt with when its transaction ends: a good one is stored and told to the gate and its critical latch, an invalid one marks the sensor; NONE leaves every channel as it is (R98, R100, R105, R106, R107, R108, R109; R115, R116, R117, R121, R127; R132, R133, R139, R140; log entries 8, 20). -/
def Obligations.ScanPollsAreAnswered : Prop :=
  (∀ (s : State) (a n x run i v : Nat) (valid e : Bool) (st : Station), s.quiet = true → s.line.receiving = some true →
     s.line.holder = .tx { kind := .scanPoll n x run, address := a, phase := .window e } → s.station? a = some st →
     ∃ t, exec (.valueAnswer a i valid v) s = .next t ∧
       t.line.holder = .tx { kind := .scanPoll n x run, address := a, phase := .closing (.value i valid v) } ∧
       t.line.out = some (ackFrame a true) ∧ t.station? a = some { st with failures := 0, link := .up } ∧
       (∀ b, b ≠ a → t.station? b = s.station? b) ∧ t.water = s.water ∧ Unchanged [.roster, .floor] s t) ∧
  (∀ (s : State) (a n x run : Nat) (o : PollOutcome) (out : List Byte), s.quiet = true → s.line.out = some out →
     s.line.holder = .tx { kind := .scanPoll n x run, address := a, phase := .closing o } →
     let free := s.setLine { s.line with holder := .free, out := none }
     let landed := fun u : State => u.setEngine { u.water.engine with inFlight := none }
     (s.water.engine.flightIsCurrent = false →
       exec .floorFrameSent s = .next (landed free).finish ∧ (landed free).finish.water.channels = s.water.channels) ∧
     (s.water.engine.flightIsCurrent = true →
       (∀ valid v, o = .value x valid v → s.stationIs a .node = false ∨ s.channel? n = none) →
       exec .floorFrameSent s = .next (landed free).engineAdvance.finish ∧
         (landed free).engineAdvance.finish.water.channels = s.water.channels) ∧
     (∀ (valid : Bool) (v : Nat) (ch : Channel), s.water.engine.flightIsCurrent = true → o = .value x valid v →
       s.stationIs a .node = true → s.channel? n = some ch →
       ∃ t, exec .floorFrameSent s = .next t ∧ (∀ m, m ≠ n → t.channel? m = s.channel? m) ∧ t.stock = s.stock ∧
         (valid = true → v ≤ ch.kind.maxValue →
           t = (landed (free.goodValue ch v)).engineAdvance.finish ∧
           t.channel? n = some { ch with
             reading := some ⟨v, s.seconds⟩, fault := false, stale := false,
             compare := compareOf ch.low ch.high (some ⟨v, s.seconds⟩) } ∧
           (s.gate.roleOf n = some 4 →
             t.cost = (s.makeupSample v s.seconds).cost ∧ t.gate.makeupRef = some s.seconds ∧
               t.gate.makeupRem = (s.makeupSample v s.seconds).gate.makeupRem ∧
               t.gate.makeupCount = (s.makeupSample v s.seconds).gate.makeupCount) ∧
           (s.gate.roleOf n = some 1 ∨ s.gate.roleOf n = some 2 →
             let seen : Alarms := if entersOutside ch.compare (compareOf ch.low ch.high (some ⟨v, s.seconds⟩)) then
               { s.alarms with entries := (s.alarms.raised .channelLimit n s.seconds).1 } else s.alarms
             let level := s.gate.level.bind t.channel?
             let turbidity := s.gate.turbidity.bind t.channel?
             let critical := (s.gate.roleOf n = some 1 ∧ v < s.gate.marks.critical) ∨
               (s.gate.roleOf n = some 2 ∧ s.gate.marks.turbCritical < v)
             let low := level.any fun q => q.reading.any fun r => decide (r.value < s.gate.marks.critical)
             let clears :=
               (level.any fun q => !q.stale && q.reading.any fun r => decide (s.gate.marks.resume ≤ r.value)) &&
                 turbidity.any fun q => !q.stale && q.reading.any fun r => decide (r.value ≤ s.gate.marks.turbLimit)
             (critical → t.gate.latch = true ∧ t.alarms.entries = (if s.gate.latch then seen.entries
               else (seen.raised .waterCritical ((if low then s.gate.level else s.gate.turbidity).getD 0) s.seconds).1)) ∧
             (¬critical → t.gate.latch = (s.gate.latch && !clears) ∧ t.alarms.entries = seen.entries) ∧
             t.gate.lineHold = (t.gate.latch || t.gate.alarmSource || s.gate.officeHold) ∧
             (s.gate.lineHold = false → t.gate.lineHold = true → s.line.broadcast = none →
               t.line.holder = .frame ∧ t.line.out = some (broadcastFrame 0 .hold)))) ∧
         (valid = false ∨ ch.kind.maxValue < v →
           t = (landed (free.invalidValue ch)).engineAdvance.finish ∧
           t.channel? n = some { ch with fault := true, stale := ch.staleAt s.seconds s.line.staleness } ∧
           t.alarms.entries = (if ch.staleAt s.seconds s.line.staleness = true ∧ ch.stale = false ∧
               (s.gate.roleOf n).isSome = true
             then (s.alarms.raised .channelStale n s.seconds).1 else s.alarms.entries) ∧
           t.gate = { s.gate with alarmSource := t.gate.alarmSource, lineHold := t.gate.lineHold } ∧
           t.cutting = s.cutting ∧ t.cost = s.cost))) ∧
  (∀ (s : State) (a x n : Nat) (e : Bool) (st : Station), s.quiet = true → s.line.receiving = some true →
     s.line.holder = .tx { kind := .scanPoll n x s.water.engine.run, address := a, phase := .window e } →
     s.station? a = some st → s.water.engine.flightIsCurrent = true →
     ∃ t, exec (.noneAnswer a) s = .next t ∧ t.water.channels = s.water.channels ∧
       (t.station? a).map Station.link = some .up ∧ (t.station? a).map Station.failures = some 0 ∧
       t = (((((s.hunt).creditStation a).freeLine).setEngine { s.water.engine with inFlight := none }).engineAdvance).finish ∧
       Unchanged [.roster, .floor, .reports] s t)

/-- O43. JOB OPEN, JOB QUOTE, JOB CLOSE and SHOP RATES rewrite what they name (R77, R78, R79, R80). -/
def Obligations.JobItemsRewriteTheJob : Prop :=
  ∀ (s : State) (h : InHand) (rest : List RawItem) (o : Origin) (job : Option Nat) (n : Nat),
    orContext job o.ctx.job = some n → n ≤ 63 →
    (∀ q, Ready s (.jobOpen job q) .job h rest o → q.all (fun c => 1 ≤ c && c ≤ 4294967295) = true →
      (s.job n).state = .closed →
      ∃ t, exec (.jobOpen job q) s = .next t ∧
        t.job n = { number := n, state := .opened, quote := q, material := 0, tool := 0, water := 0, time := 0,
                    total := 0, pieces := 0, flawed := 0, outOfTol := 0, overflow := false, overQuote := false } ∧
        (∀ m, m ≠ n → t.job m = s.job m) ∧ Answered s t h rest ⟨.ok, []⟩ ∧ Unchanged [.cost] s t) ∧
    (∀ q, Ready s (.jobQuote job q) .job h rest o → q.all (fun c => 1 ≤ c && c ≤ 4294967295) = true →
      (s.job n).state = .opened →
      ∃ t, exec (.jobQuote job q) s = .next t ∧
        t.job n = { s.job n with quote := q, overQuote := q.any fun c => decide (c ≤ (s.job n).total) } ∧
        (∀ m, m ≠ n → t.job m = s.job m) ∧ Answered s t h rest ⟨.ok, []⟩ ∧
        t.alarms.entries = (if q.any (fun c => decide (c ≤ (s.job n).total)) && !(s.job n).overQuote
          then (s.alarms.raised .jobOverQuote n s.seconds).1 else s.alarms.entries) ∧
        Unchanged [.cost, .entries, .gate, .floor, .reports] s t) ∧
    (Ready s (.jobClose job) .job h rest o → n ≠ 0 → (s.job n).state = .opened →
      (s.stock.slabs.any fun sl => sl.state.job == some n) = false →
      (s.plans.plans.any fun p => p.steps.any fun st => st.holdsJob n) = false →
      ∃ t, exec (.jobClose job) s = .next t ∧ t.job n = { s.job n with state := .closed } ∧
        (∀ m, m ≠ n → t.job m = s.job m) ∧ Answered s t h rest ⟨.ok, []⟩ ∧ Unchanged [.cost] s t) ∧
    (∀ a b, Ready s (.shopRates a b) .job h rest o → a ≤ 100000 → b ≤ 100000 →
      ∃ t, exec (.shopRates a b) s = .next t ∧ t.cost = { s.cost with loopRate := a, freshRate := b } ∧
        Answered s t h rest ⟨.ok, []⟩ ∧ Unchanged [.cost] s t)

/-- O44. A charge event adds each charge to its accumulator, their sum to the total and the pieces to the counts, with saturation, and keeps the total the sum of the four; makeup water is counted and charged to job 0 for each 1,000 L (R90, R91, R92, R93, R89, R127, R128; seconds on 32 bits by log entry 5). -/
def Obligations.ChargeAddsToTheTotal : Prop :=
  (∀ (j : Job) (c : Charge), j.balanced →
     (j.charged c).material = min 4294967295 (j.material + c.material) ∧
       (j.charged c).tool = min 4294967295 (j.tool + c.tool) ∧
       (j.charged c).water = min 4294967295 (j.water + c.water) ∧
       (j.charged c).time = min 4294967295 (j.time + c.time) ∧
       (j.charged c).total = min 4294967295 (j.total + (c.material + c.tool + c.water + c.time)) ∧
       (j.charged c).pieces = min 65535 (j.pieces + c.pieces) ∧
       (j.charged c).flawed = min 65535 (j.flawed + c.flawed) ∧
       (j.charged c).outOfTol = min 65535 (j.outOfTol + c.outOfTol) ∧
       (j.charged c).balanced ∧ (j.charged c).number = j.number ∧ (j.charged c).state = j.state ∧
       (j.charged c).quote = j.quote ∧ (j.overflow = true → (j.charged c).overflow = true) ∧
       (4294967295 < j.total + (c.material + c.tool + c.water + c.time) → (j.charged c).overflow = true) ∧
       (65535 < j.pieces + c.pieces ∨ 65535 < j.flawed + c.flawed ∨ 65535 < j.outOfTol + c.outOfTol →
         (j.charged c).overflow = true) ∧
       ((j.charged c).quote.any (· ≤ (j.charged c).total) = true → (j.charged c).overQuote = true)) ∧
  (∀ (s : State) (rate now : Nat),
     (s.gate.makeupRef = none → s.makeupSample rate now = s.setGate { s.gate with makeupRef := some now }) ∧
     (∀ ref, s.gate.makeupRef = some ref →
       let units := s.gate.makeupRem + rate * min ((now + 4294967296 - ref) % 4294967296) s.line.staleness
       let count := s.gate.makeupCount + units / 600
       let charges :=
         if count ≤ 4294967295 then count / 1000 - s.gate.makeupCount / 1000
         else 4294967295 / 1000 - s.gate.makeupCount / 1000 + 1 + (count - 4294967296) / 1000
       let t := s.makeupSample rate now
       t.gate.makeupRef = some now ∧ t.gate.makeupRem = units % 600 ∧ t.gate.makeupCount = count % 4294967296 ∧
         t.job 0 = Nat.repeat (fun j => j.charged
           { material := 0, tool := 0, water := s.cost.freshRate, time := 0, pieces := 0, flawed := 0, outOfTol := 0 })
           charges (s.job 0) ∧
         ∀ n, n ≠ 0 → t.job n = s.job n))

/-- O45. STATION and its removal rewrite the roster; LINE SETTINGS writes the pending set (R130, R131, R145, R129). -/
def Obligations.StationItemsRewriteTheRoster : Prop :=
  ∀ (s : State) (h : InHand) (rest : List RawItem) (o : Origin) (a : Nat), addressRange a = true →
    (∀ k : StationKind, Ready s (.station a k.code) .table h rest o → s.station? a = none →
      ∃ t, exec (.station a k.code) s = .next t ∧
        (k ≠ .reader ∨ s.readers < 4 →
          t.station? a = some { address := a, kind := k, link := .unknown, failures := 0,
                                nextPoll := if k = .reader then some s.seconds else none } ∧
          (∀ b, b ≠ a → t.station? b = s.station? b) ∧ Answered s t h rest ⟨.ok, []⟩ ∧
          Unchanged [.roster, .floor, .reports] s t) ∧
        (k = .reader → 4 ≤ s.readers → Answered s t h rest ⟨.full, []⟩ ∧ Unchanged [] s t)) ∧
    (∀ st : Station, Ready s (.station a st.kind.code) .table h rest o → s.station? a = some st →
      ∃ t, exec (.station a st.kind.code) s = .next t ∧ Answered s t h rest ⟨.ok, []⟩ ∧ Unchanged [] s t) ∧
    (∀ (st : Station) (k : StationKind), Ready s (.station a k.code) .table h rest o → s.station? a = some st →
      st.kind ≠ k →
      ∃ t, exec (.station a k.code) s = .next t ∧
        (k = .reader → 4 ≤ s.readers → Answered s t h rest ⟨.full, []⟩ ∧ Unchanged [] s t) ∧
        (k ≠ .reader ∨ s.readers < 4 →
          (s.addressBusy a = true → Answered s t h rest ⟨.wrongState, []⟩ ∧ Unchanged [] s t) ∧
          (s.addressBusy a = false →
            t.station? a = some { address := a, kind := k, link := .unknown, failures := 0,
                                  nextPoll := if k = .reader then some s.seconds else none } ∧
            (∀ b, b ≠ a → t.station? b = s.station? b) ∧ Answered s t h rest ⟨.ok, []⟩ ∧
            Unchanged [.roster, .floor, .reports] s t))) ∧
    (Ready s (.stationRemove a) .table h rest o → (s.station? a).isSome = true → s.addressBusy a = false →
      ∃ t, exec (.stationRemove a) s = .next t ∧ t.station? a = none ∧ (∀ b, b ≠ a → t.station? b = s.station? b) ∧
        Answered s t h rest ⟨.ok, []⟩ ∧ Unchanged [.roster, .floor, .reports] s t) ∧
    (∀ w r i st p : Nat, Ready s (.lineSettings w r i st p) .table h rest o → 5 ≤ w → w ≤ 200 → r ≤ 3 → 1 ≤ i →
      i ≤ 10 → 2 ≤ st → st ≤ 120 → 1 ≤ p → p ≤ 60 →
      ∃ t, exec (.lineSettings w r i st p) s = .next t ∧ t.line.pendingSet = ⟨w, r, i⟩ ∧ t.line.staleness = st ∧
        t.line.passInterval = p ∧ t.line.active = s.line.active ∧ Answered s t h rest ⟨.ok, []⟩ ∧
        Unchanged [.settings, .floor, .reports] s t)

/-- O46. FLOOR RESTART puts the stations back, ends the records at the cutters, empties the queue, holds again under line hold and keeps the tables (R146, R72, R70, R110, R141, R142, R144, R1, R75, R95, R167, R169, R152). -/
def Obligations.FloorRestartPutsTheLineBack : Prop :=
  ∀ (s : State) (h : InHand) (rest : List RawItem) (o : Origin), Ready s .floorRestart .table h rest o →
    ∃ t, exec .floorRestart s = .next t ∧
      (∀ a st, s.station? a = some st → (t.station? a).map Station.link = some .unknown ∧
        (t.station? a).map Station.failures = some 0 ∧ (t.station? a).map Station.kind = some st.kind) ∧
      t.line.active = s.line.pendingSet ∧ t.line.pendingSet = s.line.pendingSet ∧
      t.line.staleness = s.line.staleness ∧ t.line.passInterval = s.line.passInterval ∧
      t.water.engine.mode = none ∧ t.water.engine.inFlight = none ∧
      t.water.engine.scanList = s.water.engine.scanList ∧ t.water.engine.run = s.water.engine.run ∧
      (∀ n c, s.cutter? n = some c → (t.cutter? n).map Cutter.holdMark = some false) ∧
      (∀ n c id r, s.cutter? n = some c → id ∈ c.slots → s.record? id = some r → r.state.sentOrLater = true →
        (∀ m d, s.cutter? m = some d → id ∈ d.slots → m = n) →
        (t.cutter? n).map Cutter.state = some .faulted ∧ ∀ k ∈ c.slots, t.record? k = none) ∧
      (∀ c ∈ t.line.queue, ∃ id ∈ s.gate.waiting, c.kind = .start id) ∧
      t.line.pendingBroadcast = none ∧ (s.gate.lineHold = false → t.line.broadcast = none) ∧
      (s.gate.lineHold = true → t.line.holder = .frame ∧ t.line.out = some (broadcastFrame 0 .hold) ∧
        t.line.broadcast =
          some { kind := .hold, begun := true, slots := t.expectedCutters, missed := [], attempts := 0,
                 removed := [], rebound := [] }) ∧
      Answered s t h rest ⟨.ok, []⟩ ∧
      Unchanged [.plans, .cutting, .gate, .roster, .settings, .floor, .reports] s t

/-- O47. ALARM ACTION rewrites its kind's entry; TAKE ALARM takes the most urgent entry (R172, R173, R168, R174). The bytes by which the result of TAKE ALARM says that it carries an entry, or none, and the order of the entry's fields are the model's choice (log entry 7): R173 gives no bytes. -/
def Obligations.AlarmItemsRewriteTheTables : Prop :=
  ∀ (s : State) (h : InHand) (rest : List RawItem) (o : Origin),
    (∀ (k : AlarmKind) (p : Nat) (a : AlarmAction), Ready s (.alarmAction k.code p a.code) .table h rest o → 1 ≤ p →
      p ≤ 7 → a.admittedFor k = true →
      ∃ t, exec (.alarmAction k.code p a.code) s = .next t ∧
        t.alarms.actions = s.alarms.actions.map (fun e =>
          if e.kind = k then { e with priority := p, action := a } else e) ∧
        t.alarms.entries = s.alarms.entries.map (fun e => if e.kind = k then { e with priority := p } else e) ∧
        Answered s t h rest ⟨.ok, []⟩ ∧ t.stock = s.stock ∧ t.cost = s.cost ∧ t.seconds = s.seconds) ∧
    (Ready s .takeAlarm .alarm h rest o → s.alarms.entries = [] →
      ∃ t, exec .takeAlarm s = .next t ∧ Answered s t h rest ⟨.ok, be1 0⟩ ∧ Unchanged [] s t) ∧
    (∀ e l, Ready s .takeAlarm .alarm h rest o → s.alarms.takeOrder = e :: l →
      ∃ t, exec .takeAlarm s = .next t ∧ e ∈ s.alarms.entries ∧
        (∀ f ∈ s.alarms.entries, f.priority ≤ e.priority) ∧
        t.alarms.entries = s.alarms.entries.filter (fun f => !(f.kind == e.kind && f.subject == e.subject)) ∧
        t.alarms.actions = s.alarms.actions ∧
        Answered s t h rest ⟨.ok, be1 1 ++ e.bytes (s.alarms.actionOf e.kind)⟩)

/-- O48. A raise counts its entry, creates one, displaces the oldest of the lowest priority or is not kept, and queues one ALARM report (R170, R175, R177, R178). -/
def Obligations.RaiseCountsCreatesDisplacesOrDrops : Prop :=
  ∀ (s : State) (k : AlarmKind) (subject : Nat),
    let t := s.raise k subject
    let p := (s.alarms.entryOf k).priority
    let here := fun e : AlarmEntry => e.kind == k && e.subject == subject
    let fresh : AlarmEntry :=
      { kind := k, subject := subject, priority := p, count := 1, first := s.seconds, last := s.seconds }
    let yields := fun e : AlarmEntry => s.alarms.actionOf e.kind = .report ∧ e.priority < p
    let reports := fun (priority count : Nat) (notKept : Bool) (displaced : Option (AlarmKind × Nat)) =>
      (s.alarms.reports.length < 64 → ∃ more, (∀ r ∈ more, ∀ a, r.body ≠ .alarm a) ∧
        t.alarms.reports = s.alarms.reports ++
          { body := .alarm { kind := k, subject := subject, priority := priority, count := count, notKept := notKept,
                             displaced := displaced }
            time := s.seconds, gap := s.alarms.gapNoted } :: more) ∧
      (64 ≤ s.alarms.reports.length → t.alarms.reports = s.alarms.reports ∧ t.alarms.gapNoted = true)
    (∀ e, s.alarms.entries.find? here = some e →
      t.alarms.entries = s.alarms.entries.map (fun f =>
        if here f then { f with count := min 255 (f.count + 1), last := s.seconds } else f) ∧
      reports e.priority (min 255 (e.count + 1)) false none) ∧
    (s.alarms.entries.any here = false → s.alarms.entries.length < 48 →
      t.alarms.entries = s.alarms.entries ++ [fresh] ∧ reports p 1 false none) ∧
    (∀ (older newer : List AlarmEntry) (d : AlarmEntry), s.alarms.entries.any here = false →
      48 ≤ s.alarms.entries.length → s.alarms.entries = older ++ d :: newer → yields d →
      (∀ e ∈ older, yields e → d.priority < e.priority) → (∀ e ∈ newer, yields e → d.priority ≤ e.priority) →
      t.alarms.entries =
        s.alarms.entries.filter (fun e => !(e.kind == d.kind && e.subject == d.subject)) ++ [fresh] ∧
      reports p 1 false (some (d.kind, d.subject))) ∧
    (s.alarms.entries.any here = false → 48 ≤ s.alarms.entries.length → (∀ e ∈ s.alarms.entries, ¬yields e) →
      t.alarms.entries = s.alarms.entries ∧ reports p 1 true none)

/-- O49. Frames that begin and frames that have gone move the line port on, and a broadcast goes from its expected cutters through its slots to its addressed retries (R183, R57, R132, R134, R135, R137, R140, R141, R142, R143; when a reader's next poll comes on a counter of 32 bits is log entry 5, what comes with the end of a transaction log entry 8, what a place on the missed list asks of its cutter log entry 14, a frame that begins while the part sends log entry 22). -/
def Obligations.LinePortFollowsItsFrames : Prop :=
  (∀ s : State, s.quiet = true → s.line.receiving = none → s.line.holder ≠ .free →
     ∃ t, exec .floorFrameBegin s = .next t ∧ t.line = { s.line with receiving := t.line.receiving } ∧
       t.water = s.water ∧
       (t.line.receiving = some true ↔
         (∃ k a, s.line.holder = .tx { kind := k, address := a, phase := .window false }) ∨
           ∃ r, s.line.holder = .slot r false) ∧
       (t.line.receiving = some true ∨ t.line.receiving = some false) ∧ Unchanged [.floor] s t) ∧
  (∀ (s : State) (out : List Byte), s.quiet = true → s.line.out = some out →
     let free := s.setLine { s.line with holder := .free, out := none }
     (∀ k a, s.line.holder = .tx { kind := k, address := a, phase := .sending } →
       ∃ t, exec .floorFrameSent s = .next t ∧
         t.line = { s.line with holder := .tx { kind := k, address := a, phase := .window false }, out := none } ∧
         Unchanged [.floor] s t) ∧
     (∀ b r rs, s.line.holder = .frame → s.line.broadcast = some b → b.slots = r :: rs →
       ∃ t, exec .floorFrameSent s = .next t ∧
         t.line = { s.line with holder := .slot r false, out := none, broadcast := some { b with slots := rs } } ∧
         Unchanged [.floor] s t) ∧
     (∀ b, s.line.holder = .frame → s.line.broadcast = some b → b.slots = [] →
       exec .floorFrameSent s = .next free.finish) ∧
     (∀ a o st, s.line.holder = .tx { kind := .poll, address := a, phase := .closing o } → s.station? a = some st →
       exec .floorFrameSent s = .next (if st.kind = .reader then
         free.putStation { st with
           nextPoll := some ((s.seconds + s.line.active.readerInterval) % 4294967296) } else free).finish) ∧
     (∀ a o c cs, s.line.holder = .tx { kind := .command, address := a, phase := .closing o } → s.line.queue = c :: cs →
       exec .floorFrameSent s = .next (if c.attempts ≤ s.line.active.retries then free
         else if c.orphan then free.setLine { free.line with queue := cs }
         else (free.setLine { free.line with queue := cs }).report c.failure).finish)) ∧
  (∀ (s : State) (r : SlotRef) (e : Bool) (b : Broadcast), s.quiet = true → s.line.holder = .slot r e →
     s.line.broadcast = some b →
     let stands := (s.cutter? r.onCutter).any (fun c => c.address == r.address) && s.stationIs r.address .cutter &&
       !b.removed.contains r.onCutter && !b.rebound.contains r.onCutter
     let next := fun (w : State) (missed : List SlotRef) =>
       (match b.slots with
         | [] => w.setLine { w.line with broadcast := some { b with missed := missed }, holder := .free, out := none }
         | q :: qs => w.setLine { w.line with
             broadcast := some { b with slots := qs, missed := missed }, holder := .slot q false, out := none }).finish
     let passed := if stands then b.missed ++ [r] else b.missed
     let credited := s.hunt.creditStation r.address
     (s.line.receiving = some true →
       exec (.floorAck r.address) s =
         .next (next (if stands then credited.broadcastAcked b.kind r.onCutter else credited) b.missed)) ∧
     (s.line.receiving = some true → exec (.floorNak r.address) s = .next (next credited passed)) ∧
     (s.line.receiving = some true → exec .badFloorFrame s = .next (next s.hunt passed)) ∧
     (s.line.receiving = none → e = false → exec .responseWindowExpired s = .next (next s passed))) ∧
  (∀ (s : State) (b : Broadcast), s.line.holder = .free → s.line.broadcast = some b → b.begun = true →
     (∀ r rest, b.missed = r :: rest →
       let stands := (s.cutter? r.onCutter).any (fun c => c.address == r.address) && s.stationIs r.address .cutter &&
         !b.removed.contains r.onCutter
       (stands = true → s.finish.line = { s.line with
         holder := .tx { kind := .retry r, address := r.address, phase := .sending }
         out := some (broadcastFrame r.address b.kind), broadcast := some { b with attempts := b.attempts + 1 } }) ∧
       (stands = false →
         s.finish = (s.setLine { s.line with broadcast := some { b with missed := rest, attempts := 0 } }).finish)) ∧
     (b.missed = [] →
       s.finish.line.pendingBroadcast = none ∧
       (s.line.pendingBroadcast = none → s.finish.line.broadcast = none) ∧
       ∀ k, s.line.pendingBroadcast = some k → s.finish.line.holder = .frame ∧
         s.finish.line.out = some (broadcastFrame 0 k) ∧ s.finish.line.broadcast =
           some { kind := k, begun := true, slots := s.expectedCutters, missed := [], attempts := 0, removed := [],
                  rebound := [] })) ∧
  (∀ (s : State) (b : Broadcast), s.line.holder = .free → s.line.broadcast = some b → b.begun = false →
     s.finish.line = { s.line with
       holder := .frame, out := some (broadcastFrame 0 b.kind)
       broadcast := some { b with
         begun := true, slots := s.expectedCutters, missed := [], attempts := 0, removed := [], rebound := [] } }) ∧
  (∀ s : State,
     (∀ r, r ∈ s.expectedCutters ↔ ∃ st ∈ s.line.roster, ∃ c, st.address = r.address ∧ st.kind = .cutter ∧
       st.link ≠ .unreachable ∧ s.cutterAt st.address = some c ∧ c.number = r.onCutter) ∧
     ((s.line.roster.Pairwise fun a b => a.address < b.address) →
       s.expectedCutters.Pairwise fun a b => a.address < b.address))

/-- O50. A window that runs out, silence and a bad frame each fail the poll of a cutter or reader and count against its station (R132, R133, R135, R183; when the reader's next poll comes on a counter of 32 bits is log entry 5). -/
def Obligations.SilentStationCountsAFailure : Prop :=
  ∀ (s : State) (a : Nat) (st : Station), s.quiet = true →
    s.line.holder = .tx { kind := .poll, address := a, phase := .window false } → s.station? a = some st →
    st.failures < 2 →
    let failed : Station := { st with failures := st.failures + 1 }
    let after := fun u : State =>
      (if st.kind = .reader then
        ((u.putStation failed).freeLine).putStation { failed with
          nextPoll := some ((s.seconds + s.line.active.readerInterval) % 4294967296) }
      else (u.putStation failed).freeLine).finish
    (s.line.receiving = none → exec .responseWindowExpired s = .next (after s)) ∧
      (s.line.receiving = some true → exec .floorLineSilence s = .next (after s.hunt)) ∧
      (s.line.receiving = some true → exec .badFloorFrame s = .next (after s.hunt)) ∧
      ∀ u, u = s ∨ u = s.hunt → ((after u).station? a).map Station.failures = some (st.failures + 1) ∧
        ((after u).station? a).map Station.link = some st.link ∧ (after u).alarms.entries = s.alarms.entries

/-- O51. The third consecutive failure makes a station UNREACHABLE and reports its cutter (R133). -/
def Obligations.ThirdFailureLosesTheStation : Prop :=
  ∀ (s : State) (a : Nat) (st : Station), s.station? a = some st → 2 ≤ st.failures →
    (st.link ≠ .unreachable →
      ((s.failStation a).station? a) = some { st with link := .unreachable, failures := 3 } ∧
        (s.failStation a).alarms.entries = (s.alarms.raised .stationUnreachable a s.seconds).1 ∧
        (∀ c, s.cutterAt a = some c → st.kind = .cutter →
          (s.failStation a).line.reports = s.line.reports ++ [.unreachable c.number])) ∧
    (st.link = .unreachable →
      ((s.failStation a).station? a) = some { st with failures := 3 } ∧ (s.failStation a).alarms = s.alarms ∧
        (s.failStation a).line.reports = s.line.reports)

/-- O52. ACK and NAK rule the attempts of START, ABORT and the addressed retries; HOLD and RESUME move the hold mark and the record at work (R57, R62, R64, R133, R136, R137, R143; a report is taken in a step of its own, log entry 3; log entries 13, 14, 18). -/
def Obligations.AttemptsAreRuledByAckAndNak : Prop :=
  (∀ (s : State) (a n id : Nat) (e : Bool) (st : Station) (c : Command) (cs : List Command) (k : Cutter) (r : CutRecord),
     s.quiet = true → s.line.receiving = some true →
     s.line.holder = .tx { kind := .command, address := a, phase := .window e } → s.station? a = some st →
     s.line.queue = c :: cs → c.kind = .start id → c.onCutter = n → s.cutter? n = some k → s.record? id = some r →
     r.onCutter = n → r.state = .sent → c.orphan = false →
     let behind := (s.liveOf k).any fun q => q.id != id && q.state.atWork
     let taken : CutRecord :=
       { r with state := if behind then .queued else if k.holdMark then .held else .executing, timer := 0 }
     let u := (s.hunt.creditStation a).freeLine
     ∃ t, exec (.floorAck a) s = .next t ∧ t.record? id = some taken ∧
       (∀ j, j ≠ id → t.record? j = s.record? j) ∧ (t.station? a).map Station.link = some .up ∧
       (t.station? a).map Station.failures = some 0 ∧ t.stock = s.stock ∧ t.gate = s.gate ∧
       t = ((u.setLine { u.line with queue := cs }).putRecord taken).finish) ∧
  (∀ (s : State) (a : Nat) (e : Bool) (st : Station) (c : Command) (cs : List Command), s.quiet = true →
     s.line.receiving = some true → s.line.holder = .tx { kind := .command, address := a, phase := .window e } →
     s.station? a = some st → s.line.queue = c :: cs →
     let u := (s.hunt.creditStation a).freeLine
     (c.kind = .abort ∨ c.orphan = true → exec (.floorAck a) s = .next (u.setLine { u.line with queue := cs }).finish) ∧
     ∃ t, exec (.floorNak a) s = .next t ∧ (t.station? a).map Station.link = some .up ∧
       (t.station? a).map Station.failures = some 0 ∧
       t = (if c.attempts ≤ s.line.active.retries then u
            else if c.orphan then u.setLine { u.line with queue := cs }
            else (u.setLine { u.line with queue := cs }).report c.failure).finish ∧
       Unchanged [.roster, .floor, .reports] s t) ∧
  (∀ (s : State) (r : SlotRef) (e : Bool) (st : Station) (b : Broadcast), s.quiet = true →
     s.line.receiving = some true →
     s.line.holder = .tx { kind := .retry r, address := r.address, phase := .window e } →
     s.station? r.address = some st → s.line.broadcast = some b →
     let u := (s.hunt.creditStation r.address).freeLine
     let drop := fun w : State =>
       w.setLine { w.line with broadcast := some { b with missed := b.missed.tail, attempts := 0 } }
     let lost := ((drop (u.raise .holdUnacked r.onCutter)).putStation
       { st with link := .unreachable, failures := 3 }).raise .stationUnreachable r.address
     exec (.floorAck r.address) s =
       .next (drop (if b.removed.contains r.onCutter then u else u.broadcastAcked b.kind r.onCutter)).finish ∧
     exec (.floorNak r.address) s = .next (if b.attempts ≤ s.line.active.retries then u
       else if b.removed.contains r.onCutter then lost else lost.report (.unreachable r.onCutter)).finish) ∧
  (∀ (s : State) (k : BroadcastKind) (n : Nat) (c : Cutter), s.cutter? n = some c →
     let t := s.broadcastAcked k n
     t.cutter? n = some { c with holdMark := decide (k = .hold) } ∧ (∀ m, m ≠ n → t.cutter? m = s.cutter? m) ∧
       (∀ id q, s.record? id = some q → t.record? id =
         if q.onCutter = n ∧ k = .hold ∧ c.holdMark = false ∧ q.state = .executing then some { q with state := .held }
         else if q.onCutter = n ∧ k = .resume ∧ c.holdMark = true ∧ q.state = .held then
           some { q with state := .executing }
         else some q) ∧
       Unchanged [.cutting] s t) ∧
  (∀ (s : State) (r : CutRecord) (e : Ending) (unresolve : Bool), ∀ c ∈ (s.endRecord r e unresolve).line.queue,
     c.kind = .start r.id → c.onCutter = r.onCutter → c.orphan = true ∧ c.attempts ≠ 0)

/-- O53. A completion is ACKed and taken, ignored, reported late, or faults its cutter, by its echo (R46, R66, R67, R68, R69, R140; of two entries with one echo the older is the late one's, log entry 29). -/
def Obligations.CompletionsAreClassedByEcho : Prop :=
  ∀ (s : State) (a : Nat) (e : Bool) (st : Station) (c : Cutter) (i w ending pieces travel elapsed litres : Nat)
    (sl : Nat) (lengths : List Nat), s.quiet = true → s.line.receiving = some true →
    s.line.holder = .tx { kind := .poll, address := a, phase := .window e } → s.station? a = some st →
    st.kind = .cutter → s.cutterAt a = some c → s.cutter? c.number = some c →
    let m : Completion := { echo := ⟨i, sl, w⟩, ending := cutEndOf ending, pieces := pieces, travel := travel,
                            elapsed := elapsed, litres := litres, lengths := lengths }
    let u := s.hunt.creditStation a
    let live := s.liveOf c
    let atWork := fun q : CutRecord => q.state = .executing ∨ q.state = .held
    let unclaimed := (∀ q ∈ live, atWork q → q.echo ≠ m.echo) ∧
      (∀ q ∈ live, q.state = .sent → q.echo = m.echo → ∃ p ∈ live, atWork p)
    ∃ t, exec (.completionAnswer a i sl w ending pieces travel elapsed litres lengths) s = .next t ∧
      t.line.out = some (ackFrame a true) ∧
      (∀ r ∈ live, r.onCutter = c.number → r.echo = m.echo →
        (atWork r ∧ (∀ q ∈ live, atWork q → q = r)) ∨
          (r.state = .sent ∧ (∀ q ∈ live, ¬atWork q) ∧ (∀ q ∈ live, q.state = .sent → q.echo = m.echo → q = r)) →
        let done := (u.takeCompletion c (if r.state = .sent then { r with state := .executing } else r) m).reevaluate
        t.stock = done.stock ∧ t.cost = done.cost ∧ t.cutting = done.cutting ∧ t.record? r.id = none ∧
          (t.cutter? c.number).map Cutter.lastTaken = some (some m.echo) ∧
          ∀ q, s.slab? r.slab = some q → (t.cutter? c.number).map Cutter.life =
            some (c.life - min travel r.travel * (q.thickness + c.settings.overcut))) ∧
      (unclaimed → c.lastTaken = some m.echo → Unchanged [.roster, .floor] s t) ∧
      (∀ older newer x, unclaimed → c.lastTaken ≠ some m.echo → c.uncertain = older ++ x :: newer → x.echo = m.echo →
        (∀ y ∈ older, y.echo ≠ m.echo) →
        t.cutter? c.number = some { c with uncertain := older ++ newer } ∧ t.cutting.records = s.cutting.records ∧
          t.stock = s.stock ∧ t.cost = s.cost ∧ t.plans = s.plans ∧
          t.alarms.entries = (s.alarms.raised .lateCompletion c.number s.seconds).1) ∧
      (unclaimed → c.lastTaken ≠ some m.echo → (∀ x ∈ c.uncertain, x.echo ≠ m.echo) →
        (t.cutter? c.number).map Cutter.state = some .faulted ∧
          (t.cutter? c.number).map Cutter.lastTaken = some c.lastTaken ∧ (∀ id ∈ c.slots, t.record? id = none) ∧
          t.stock = s.stock ∧ t.cost = s.cost ∧
          t.alarms.entries = (s.alarms.raised .echoMismatch c.number s.seconds).1)

/-- O54. The part after power-on meets every condition that steps keep (R1, R75, R111, R136, R148, R152, R167, R169, R176). -/
def Obligations.ResetMeetsEveryCondition : Prop :=
  AlarmTablesHold State.reset ∧ LineHoldFollows State.reset ∧ TableStaysReachable State.reset ∧
    JobsBalanced State.reset ∧ BufferHolds State.reset ∧ StockHolds State.reset ∧ QueueHolds State.reset

/-- O55. Every step keeps the alarm tables and the report queue within their rules (R167, R169, R172, R176). -/
def Obligations.AlarmTablesKept : Prop :=
  ∀ s t : State, AlarmTablesHold s → step s = .next t → AlarmTablesHold t

/-- O56. Every step keeps line hold the outcome of its three sources (R117, R119, R171). -/
def Obligations.LineHoldKept : Prop :=
  ∀ s t : State, LineHoldFollows s → step s = .next t → LineHoldFollows t

/-- O57. Every step keeps an origin that can send TABLE items (R152, R161, R162). -/
def Obligations.TableKeptReachable : Prop :=
  ∀ s t : State, TableStaysReachable s → step s = .next t → TableStaysReachable t

/-- O58. Every step keeps every job's total the sum of its accumulators (R90, R75, R77). -/
def Obligations.JobsKeptBalanced : Prop :=
  ∀ s t : State, JobsBalanced s → step s = .next t → JobsBalanced t

/-- O59. Every step keeps the input buffer, the command queue and the stock table within their places (R148, R150, R160, R136, R1, R4, R16, R18). -/
def Obligations.TablesStayWithinTheirPlaces : Prop :=
  ∀ s t : State, BufferHolds s ∧ QueueHolds s ∧ StockHolds s → step s = .next t →
    BufferHolds t ∧ QueueHolds t ∧ StockHolds t

/-- O60. Every well-formed item is read back from its bytes (R179, R182; the remove mark and the width of ORIGIN's operands are log entries 10 and 11). -/
def Obligations.ItemsReadBackAsWritten : Prop :=
  ∀ (i : Instr) (r : RawItem), i.wf = true → encodeItem i = some r → decodeItem r = some i
end

