-- ==== Sys2Proof/Laws/State.lean ====
section
/-! SUPPORT. One lemma per field per block update: an update of a block reads back as written and leaves every other
block alone. -/

namespace Sys2Proof.Machine

@[simp] theorem State.setPending_pending (s : State) (x : List Instr) : (s.setPending x).pending = x := rfl
@[simp] theorem State.setPending_seconds (s : State) (x : List Instr) : (s.setPending x).seconds = s.seconds := rfl
@[simp] theorem State.setPending_freeCount (s : State) (x : List Instr) : (s.setPending x).freeCount = s.freeCount := rfl
@[simp] theorem State.setPending_stock (s : State) (x : List Instr) : (s.setPending x).stock = s.stock := rfl
@[simp] theorem State.setPending_plans (s : State) (x : List Instr) : (s.setPending x).plans = s.plans := rfl
@[simp] theorem State.setPending_cutting (s : State) (x : List Instr) : (s.setPending x).cutting = s.cutting := rfl
@[simp] theorem State.setPending_cost (s : State) (x : List Instr) : (s.setPending x).cost = s.cost := rfl
@[simp] theorem State.setPending_water (s : State) (x : List Instr) : (s.setPending x).water = s.water := rfl
@[simp] theorem State.setPending_gate (s : State) (x : List Instr) : (s.setPending x).gate = s.gate := rfl
@[simp] theorem State.setPending_line (s : State) (x : List Instr) : (s.setPending x).line = s.line := rfl
@[simp] theorem State.setPending_alarms (s : State) (x : List Instr) : (s.setPending x).alarms = s.alarms := rfl
@[simp] theorem State.setPending_office (s : State) (x : List Instr) : (s.setPending x).office = s.office := rfl
@[simp] theorem State.setPending_handler (s : State) (x : List Instr) : (s.setPending x).handler = s.handler := rfl

@[simp] theorem State.setSeconds_pending (s : State) (x : Nat) : (s.setSeconds x).pending = s.pending := rfl
@[simp] theorem State.setSeconds_seconds (s : State) (x : Nat) : (s.setSeconds x).seconds = x := rfl
@[simp] theorem State.setSeconds_freeCount (s : State) (x : Nat) : (s.setSeconds x).freeCount = s.freeCount := rfl
@[simp] theorem State.setSeconds_stock (s : State) (x : Nat) : (s.setSeconds x).stock = s.stock := rfl
@[simp] theorem State.setSeconds_plans (s : State) (x : Nat) : (s.setSeconds x).plans = s.plans := rfl
@[simp] theorem State.setSeconds_cutting (s : State) (x : Nat) : (s.setSeconds x).cutting = s.cutting := rfl
@[simp] theorem State.setSeconds_cost (s : State) (x : Nat) : (s.setSeconds x).cost = s.cost := rfl
@[simp] theorem State.setSeconds_water (s : State) (x : Nat) : (s.setSeconds x).water = s.water := rfl
@[simp] theorem State.setSeconds_gate (s : State) (x : Nat) : (s.setSeconds x).gate = s.gate := rfl
@[simp] theorem State.setSeconds_line (s : State) (x : Nat) : (s.setSeconds x).line = s.line := rfl
@[simp] theorem State.setSeconds_alarms (s : State) (x : Nat) : (s.setSeconds x).alarms = s.alarms := rfl
@[simp] theorem State.setSeconds_office (s : State) (x : Nat) : (s.setSeconds x).office = s.office := rfl
@[simp] theorem State.setSeconds_handler (s : State) (x : Nat) : (s.setSeconds x).handler = s.handler := rfl

@[simp] theorem State.setFreeCount_pending (s : State) (x : Nat) : (s.setFreeCount x).pending = s.pending := rfl
@[simp] theorem State.setFreeCount_seconds (s : State) (x : Nat) : (s.setFreeCount x).seconds = s.seconds := rfl
@[simp] theorem State.setFreeCount_freeCount (s : State) (x : Nat) : (s.setFreeCount x).freeCount = x := rfl
@[simp] theorem State.setFreeCount_stock (s : State) (x : Nat) : (s.setFreeCount x).stock = s.stock := rfl
@[simp] theorem State.setFreeCount_plans (s : State) (x : Nat) : (s.setFreeCount x).plans = s.plans := rfl
@[simp] theorem State.setFreeCount_cutting (s : State) (x : Nat) : (s.setFreeCount x).cutting = s.cutting := rfl
@[simp] theorem State.setFreeCount_cost (s : State) (x : Nat) : (s.setFreeCount x).cost = s.cost := rfl
@[simp] theorem State.setFreeCount_water (s : State) (x : Nat) : (s.setFreeCount x).water = s.water := rfl
@[simp] theorem State.setFreeCount_gate (s : State) (x : Nat) : (s.setFreeCount x).gate = s.gate := rfl
@[simp] theorem State.setFreeCount_line (s : State) (x : Nat) : (s.setFreeCount x).line = s.line := rfl
@[simp] theorem State.setFreeCount_alarms (s : State) (x : Nat) : (s.setFreeCount x).alarms = s.alarms := rfl
@[simp] theorem State.setFreeCount_office (s : State) (x : Nat) : (s.setFreeCount x).office = s.office := rfl
@[simp] theorem State.setFreeCount_handler (s : State) (x : Nat) : (s.setFreeCount x).handler = s.handler := rfl

@[simp] theorem State.setStock_pending (s : State) (x : Stock) : (s.setStock x).pending = s.pending := rfl
@[simp] theorem State.setStock_seconds (s : State) (x : Stock) : (s.setStock x).seconds = s.seconds := rfl
@[simp] theorem State.setStock_freeCount (s : State) (x : Stock) : (s.setStock x).freeCount = s.freeCount := rfl
@[simp] theorem State.setStock_stock (s : State) (x : Stock) : (s.setStock x).stock = x := rfl
@[simp] theorem State.setStock_plans (s : State) (x : Stock) : (s.setStock x).plans = s.plans := rfl
@[simp] theorem State.setStock_cutting (s : State) (x : Stock) : (s.setStock x).cutting = s.cutting := rfl
@[simp] theorem State.setStock_cost (s : State) (x : Stock) : (s.setStock x).cost = s.cost := rfl
@[simp] theorem State.setStock_water (s : State) (x : Stock) : (s.setStock x).water = s.water := rfl
@[simp] theorem State.setStock_gate (s : State) (x : Stock) : (s.setStock x).gate = s.gate := rfl
@[simp] theorem State.setStock_line (s : State) (x : Stock) : (s.setStock x).line = s.line := rfl
@[simp] theorem State.setStock_alarms (s : State) (x : Stock) : (s.setStock x).alarms = s.alarms := rfl
@[simp] theorem State.setStock_office (s : State) (x : Stock) : (s.setStock x).office = s.office := rfl
@[simp] theorem State.setStock_handler (s : State) (x : Stock) : (s.setStock x).handler = s.handler := rfl

@[simp] theorem State.setPlans_pending (s : State) (x : PlanTable) : (s.setPlans x).pending = s.pending := rfl
@[simp] theorem State.setPlans_seconds (s : State) (x : PlanTable) : (s.setPlans x).seconds = s.seconds := rfl
@[simp] theorem State.setPlans_freeCount (s : State) (x : PlanTable) : (s.setPlans x).freeCount = s.freeCount := rfl
@[simp] theorem State.setPlans_stock (s : State) (x : PlanTable) : (s.setPlans x).stock = s.stock := rfl
@[simp] theorem State.setPlans_plans (s : State) (x : PlanTable) : (s.setPlans x).plans = x := rfl
@[simp] theorem State.setPlans_cutting (s : State) (x : PlanTable) : (s.setPlans x).cutting = s.cutting := rfl
@[simp] theorem State.setPlans_cost (s : State) (x : PlanTable) : (s.setPlans x).cost = s.cost := rfl
@[simp] theorem State.setPlans_water (s : State) (x : PlanTable) : (s.setPlans x).water = s.water := rfl
@[simp] theorem State.setPlans_gate (s : State) (x : PlanTable) : (s.setPlans x).gate = s.gate := rfl
@[simp] theorem State.setPlans_line (s : State) (x : PlanTable) : (s.setPlans x).line = s.line := rfl
@[simp] theorem State.setPlans_alarms (s : State) (x : PlanTable) : (s.setPlans x).alarms = s.alarms := rfl
@[simp] theorem State.setPlans_office (s : State) (x : PlanTable) : (s.setPlans x).office = s.office := rfl
@[simp] theorem State.setPlans_handler (s : State) (x : PlanTable) : (s.setPlans x).handler = s.handler := rfl

@[simp] theorem State.setCutting_pending (s : State) (x : Cutting) : (s.setCutting x).pending = s.pending := rfl
@[simp] theorem State.setCutting_seconds (s : State) (x : Cutting) : (s.setCutting x).seconds = s.seconds := rfl
@[simp] theorem State.setCutting_freeCount (s : State) (x : Cutting) : (s.setCutting x).freeCount = s.freeCount := rfl
@[simp] theorem State.setCutting_stock (s : State) (x : Cutting) : (s.setCutting x).stock = s.stock := rfl
@[simp] theorem State.setCutting_plans (s : State) (x : Cutting) : (s.setCutting x).plans = s.plans := rfl
@[simp] theorem State.setCutting_cutting (s : State) (x : Cutting) : (s.setCutting x).cutting = x := rfl
@[simp] theorem State.setCutting_cost (s : State) (x : Cutting) : (s.setCutting x).cost = s.cost := rfl
@[simp] theorem State.setCutting_water (s : State) (x : Cutting) : (s.setCutting x).water = s.water := rfl
@[simp] theorem State.setCutting_gate (s : State) (x : Cutting) : (s.setCutting x).gate = s.gate := rfl
@[simp] theorem State.setCutting_line (s : State) (x : Cutting) : (s.setCutting x).line = s.line := rfl
@[simp] theorem State.setCutting_alarms (s : State) (x : Cutting) : (s.setCutting x).alarms = s.alarms := rfl
@[simp] theorem State.setCutting_office (s : State) (x : Cutting) : (s.setCutting x).office = s.office := rfl
@[simp] theorem State.setCutting_handler (s : State) (x : Cutting) : (s.setCutting x).handler = s.handler := rfl

@[simp] theorem State.setCost_pending (s : State) (x : Cost) : (s.setCost x).pending = s.pending := rfl
@[simp] theorem State.setCost_seconds (s : State) (x : Cost) : (s.setCost x).seconds = s.seconds := rfl
@[simp] theorem State.setCost_freeCount (s : State) (x : Cost) : (s.setCost x).freeCount = s.freeCount := rfl
@[simp] theorem State.setCost_stock (s : State) (x : Cost) : (s.setCost x).stock = s.stock := rfl
@[simp] theorem State.setCost_plans (s : State) (x : Cost) : (s.setCost x).plans = s.plans := rfl
@[simp] theorem State.setCost_cutting (s : State) (x : Cost) : (s.setCost x).cutting = s.cutting := rfl
@[simp] theorem State.setCost_cost (s : State) (x : Cost) : (s.setCost x).cost = x := rfl
@[simp] theorem State.setCost_water (s : State) (x : Cost) : (s.setCost x).water = s.water := rfl
@[simp] theorem State.setCost_gate (s : State) (x : Cost) : (s.setCost x).gate = s.gate := rfl
@[simp] theorem State.setCost_line (s : State) (x : Cost) : (s.setCost x).line = s.line := rfl
@[simp] theorem State.setCost_alarms (s : State) (x : Cost) : (s.setCost x).alarms = s.alarms := rfl
@[simp] theorem State.setCost_office (s : State) (x : Cost) : (s.setCost x).office = s.office := rfl
@[simp] theorem State.setCost_handler (s : State) (x : Cost) : (s.setCost x).handler = s.handler := rfl

@[simp] theorem State.setWater_pending (s : State) (x : Water) : (s.setWater x).pending = s.pending := rfl
@[simp] theorem State.setWater_seconds (s : State) (x : Water) : (s.setWater x).seconds = s.seconds := rfl
@[simp] theorem State.setWater_freeCount (s : State) (x : Water) : (s.setWater x).freeCount = s.freeCount := rfl
@[simp] theorem State.setWater_stock (s : State) (x : Water) : (s.setWater x).stock = s.stock := rfl
@[simp] theorem State.setWater_plans (s : State) (x : Water) : (s.setWater x).plans = s.plans := rfl
@[simp] theorem State.setWater_cutting (s : State) (x : Water) : (s.setWater x).cutting = s.cutting := rfl
@[simp] theorem State.setWater_cost (s : State) (x : Water) : (s.setWater x).cost = s.cost := rfl
@[simp] theorem State.setWater_water (s : State) (x : Water) : (s.setWater x).water = x := rfl
@[simp] theorem State.setWater_gate (s : State) (x : Water) : (s.setWater x).gate = s.gate := rfl
@[simp] theorem State.setWater_line (s : State) (x : Water) : (s.setWater x).line = s.line := rfl
@[simp] theorem State.setWater_alarms (s : State) (x : Water) : (s.setWater x).alarms = s.alarms := rfl
@[simp] theorem State.setWater_office (s : State) (x : Water) : (s.setWater x).office = s.office := rfl
@[simp] theorem State.setWater_handler (s : State) (x : Water) : (s.setWater x).handler = s.handler := rfl

@[simp] theorem State.setGate_pending (s : State) (x : Gate) : (s.setGate x).pending = s.pending := rfl
@[simp] theorem State.setGate_seconds (s : State) (x : Gate) : (s.setGate x).seconds = s.seconds := rfl
@[simp] theorem State.setGate_freeCount (s : State) (x : Gate) : (s.setGate x).freeCount = s.freeCount := rfl
@[simp] theorem State.setGate_stock (s : State) (x : Gate) : (s.setGate x).stock = s.stock := rfl
@[simp] theorem State.setGate_plans (s : State) (x : Gate) : (s.setGate x).plans = s.plans := rfl
@[simp] theorem State.setGate_cutting (s : State) (x : Gate) : (s.setGate x).cutting = s.cutting := rfl
@[simp] theorem State.setGate_cost (s : State) (x : Gate) : (s.setGate x).cost = s.cost := rfl
@[simp] theorem State.setGate_water (s : State) (x : Gate) : (s.setGate x).water = s.water := rfl
@[simp] theorem State.setGate_gate (s : State) (x : Gate) : (s.setGate x).gate = x := rfl
@[simp] theorem State.setGate_line (s : State) (x : Gate) : (s.setGate x).line = s.line := rfl
@[simp] theorem State.setGate_alarms (s : State) (x : Gate) : (s.setGate x).alarms = s.alarms := rfl
@[simp] theorem State.setGate_office (s : State) (x : Gate) : (s.setGate x).office = s.office := rfl
@[simp] theorem State.setGate_handler (s : State) (x : Gate) : (s.setGate x).handler = s.handler := rfl

@[simp] theorem State.setLine_pending (s : State) (x : LinePort) : (s.setLine x).pending = s.pending := rfl
@[simp] theorem State.setLine_seconds (s : State) (x : LinePort) : (s.setLine x).seconds = s.seconds := rfl
@[simp] theorem State.setLine_freeCount (s : State) (x : LinePort) : (s.setLine x).freeCount = s.freeCount := rfl
@[simp] theorem State.setLine_stock (s : State) (x : LinePort) : (s.setLine x).stock = s.stock := rfl
@[simp] theorem State.setLine_plans (s : State) (x : LinePort) : (s.setLine x).plans = s.plans := rfl
@[simp] theorem State.setLine_cutting (s : State) (x : LinePort) : (s.setLine x).cutting = s.cutting := rfl
@[simp] theorem State.setLine_cost (s : State) (x : LinePort) : (s.setLine x).cost = s.cost := rfl
@[simp] theorem State.setLine_water (s : State) (x : LinePort) : (s.setLine x).water = s.water := rfl
@[simp] theorem State.setLine_gate (s : State) (x : LinePort) : (s.setLine x).gate = s.gate := rfl
@[simp] theorem State.setLine_line (s : State) (x : LinePort) : (s.setLine x).line = x := rfl
@[simp] theorem State.setLine_alarms (s : State) (x : LinePort) : (s.setLine x).alarms = s.alarms := rfl
@[simp] theorem State.setLine_office (s : State) (x : LinePort) : (s.setLine x).office = s.office := rfl
@[simp] theorem State.setLine_handler (s : State) (x : LinePort) : (s.setLine x).handler = s.handler := rfl

@[simp] theorem State.setAlarms_pending (s : State) (x : Alarms) : (s.setAlarms x).pending = s.pending := rfl
@[simp] theorem State.setAlarms_seconds (s : State) (x : Alarms) : (s.setAlarms x).seconds = s.seconds := rfl
@[simp] theorem State.setAlarms_freeCount (s : State) (x : Alarms) : (s.setAlarms x).freeCount = s.freeCount := rfl
@[simp] theorem State.setAlarms_stock (s : State) (x : Alarms) : (s.setAlarms x).stock = s.stock := rfl
@[simp] theorem State.setAlarms_plans (s : State) (x : Alarms) : (s.setAlarms x).plans = s.plans := rfl
@[simp] theorem State.setAlarms_cutting (s : State) (x : Alarms) : (s.setAlarms x).cutting = s.cutting := rfl
@[simp] theorem State.setAlarms_cost (s : State) (x : Alarms) : (s.setAlarms x).cost = s.cost := rfl
@[simp] theorem State.setAlarms_water (s : State) (x : Alarms) : (s.setAlarms x).water = s.water := rfl
@[simp] theorem State.setAlarms_gate (s : State) (x : Alarms) : (s.setAlarms x).gate = s.gate := rfl
@[simp] theorem State.setAlarms_line (s : State) (x : Alarms) : (s.setAlarms x).line = s.line := rfl
@[simp] theorem State.setAlarms_alarms (s : State) (x : Alarms) : (s.setAlarms x).alarms = x := rfl
@[simp] theorem State.setAlarms_office (s : State) (x : Alarms) : (s.setAlarms x).office = s.office := rfl
@[simp] theorem State.setAlarms_handler (s : State) (x : Alarms) : (s.setAlarms x).handler = s.handler := rfl

@[simp] theorem State.setOffice_pending (s : State) (x : Office) : (s.setOffice x).pending = s.pending := rfl
@[simp] theorem State.setOffice_seconds (s : State) (x : Office) : (s.setOffice x).seconds = s.seconds := rfl
@[simp] theorem State.setOffice_freeCount (s : State) (x : Office) : (s.setOffice x).freeCount = s.freeCount := rfl
@[simp] theorem State.setOffice_stock (s : State) (x : Office) : (s.setOffice x).stock = s.stock := rfl
@[simp] theorem State.setOffice_plans (s : State) (x : Office) : (s.setOffice x).plans = s.plans := rfl
@[simp] theorem State.setOffice_cutting (s : State) (x : Office) : (s.setOffice x).cutting = s.cutting := rfl
@[simp] theorem State.setOffice_cost (s : State) (x : Office) : (s.setOffice x).cost = s.cost := rfl
@[simp] theorem State.setOffice_water (s : State) (x : Office) : (s.setOffice x).water = s.water := rfl
@[simp] theorem State.setOffice_gate (s : State) (x : Office) : (s.setOffice x).gate = s.gate := rfl
@[simp] theorem State.setOffice_line (s : State) (x : Office) : (s.setOffice x).line = s.line := rfl
@[simp] theorem State.setOffice_alarms (s : State) (x : Office) : (s.setOffice x).alarms = s.alarms := rfl
@[simp] theorem State.setOffice_office (s : State) (x : Office) : (s.setOffice x).office = x := rfl
@[simp] theorem State.setOffice_handler (s : State) (x : Office) : (s.setOffice x).handler = s.handler := rfl

@[simp] theorem State.setHandler_pending (s : State) (x : Handler) : (s.setHandler x).pending = s.pending := rfl
@[simp] theorem State.setHandler_seconds (s : State) (x : Handler) : (s.setHandler x).seconds = s.seconds := rfl
@[simp] theorem State.setHandler_freeCount (s : State) (x : Handler) : (s.setHandler x).freeCount = s.freeCount := rfl
@[simp] theorem State.setHandler_stock (s : State) (x : Handler) : (s.setHandler x).stock = s.stock := rfl
@[simp] theorem State.setHandler_plans (s : State) (x : Handler) : (s.setHandler x).plans = s.plans := rfl
@[simp] theorem State.setHandler_cutting (s : State) (x : Handler) : (s.setHandler x).cutting = s.cutting := rfl
@[simp] theorem State.setHandler_cost (s : State) (x : Handler) : (s.setHandler x).cost = s.cost := rfl
@[simp] theorem State.setHandler_water (s : State) (x : Handler) : (s.setHandler x).water = s.water := rfl
@[simp] theorem State.setHandler_gate (s : State) (x : Handler) : (s.setHandler x).gate = s.gate := rfl
@[simp] theorem State.setHandler_line (s : State) (x : Handler) : (s.setHandler x).line = s.line := rfl
@[simp] theorem State.setHandler_alarms (s : State) (x : Handler) : (s.setHandler x).alarms = s.alarms := rfl
@[simp] theorem State.setHandler_office (s : State) (x : Handler) : (s.setHandler x).office = s.office := rfl
@[simp] theorem State.setHandler_handler (s : State) (x : Handler) : (s.setHandler x).handler = x := rfl

end Sys2Proof.Machine
end

