-- ==== Sys2Proof/Laws/Ops.lean ====
section
/-! SUPPORT. What the shared operations leave alone: one lemma for each block an operation does not touch. -/

namespace Sys2Proof.Machine

/-! ### Single records of a table: only their own block changes -/

@[simp] theorem State.putSlab_pending (s : State) (x : Slab) : (s.putSlab x).pending = s.pending := by
  rfl
@[simp] theorem State.putSlab_seconds (s : State) (x : Slab) : (s.putSlab x).seconds = s.seconds := by
  rfl
@[simp] theorem State.putSlab_freeCount (s : State) (x : Slab) : (s.putSlab x).freeCount = s.freeCount := by
  rfl
@[simp] theorem State.putSlab_plans (s : State) (x : Slab) : (s.putSlab x).plans = s.plans := by
  rfl
@[simp] theorem State.putSlab_cutting (s : State) (x : Slab) : (s.putSlab x).cutting = s.cutting := by
  rfl
@[simp] theorem State.putSlab_cost (s : State) (x : Slab) : (s.putSlab x).cost = s.cost := by
  rfl
@[simp] theorem State.putSlab_water (s : State) (x : Slab) : (s.putSlab x).water = s.water := by
  rfl
@[simp] theorem State.putSlab_gate (s : State) (x : Slab) : (s.putSlab x).gate = s.gate := by
  rfl
@[simp] theorem State.putSlab_line (s : State) (x : Slab) : (s.putSlab x).line = s.line := by
  rfl
@[simp] theorem State.putSlab_alarms (s : State) (x : Slab) : (s.putSlab x).alarms = s.alarms := by
  rfl
@[simp] theorem State.putSlab_office (s : State) (x : Slab) : (s.putSlab x).office = s.office := by
  rfl
@[simp] theorem State.putSlab_handler (s : State) (x : Slab) : (s.putSlab x).handler = s.handler := by
  rfl

@[simp] theorem State.dropSlab_pending (s : State) (x : Nat) : (s.dropSlab x).pending = s.pending := by
  rfl
@[simp] theorem State.dropSlab_seconds (s : State) (x : Nat) : (s.dropSlab x).seconds = s.seconds := by
  rfl
@[simp] theorem State.dropSlab_freeCount (s : State) (x : Nat) : (s.dropSlab x).freeCount = s.freeCount := by
  rfl
@[simp] theorem State.dropSlab_plans (s : State) (x : Nat) : (s.dropSlab x).plans = s.plans := by
  rfl
@[simp] theorem State.dropSlab_cutting (s : State) (x : Nat) : (s.dropSlab x).cutting = s.cutting := by
  rfl
@[simp] theorem State.dropSlab_cost (s : State) (x : Nat) : (s.dropSlab x).cost = s.cost := by
  rfl
@[simp] theorem State.dropSlab_water (s : State) (x : Nat) : (s.dropSlab x).water = s.water := by
  rfl
@[simp] theorem State.dropSlab_gate (s : State) (x : Nat) : (s.dropSlab x).gate = s.gate := by
  rfl
@[simp] theorem State.dropSlab_line (s : State) (x : Nat) : (s.dropSlab x).line = s.line := by
  rfl
@[simp] theorem State.dropSlab_alarms (s : State) (x : Nat) : (s.dropSlab x).alarms = s.alarms := by
  rfl
@[simp] theorem State.dropSlab_office (s : State) (x : Nat) : (s.dropSlab x).office = s.office := by
  rfl
@[simp] theorem State.dropSlab_handler (s : State) (x : Nat) : (s.dropSlab x).handler = s.handler := by
  rfl

@[simp] theorem State.touch_pending (s : State) (x : Nat) : (s.touch x).pending = s.pending := by
  rfl
@[simp] theorem State.touch_seconds (s : State) (x : Nat) : (s.touch x).seconds = s.seconds := by
  rfl
@[simp] theorem State.touch_freeCount (s : State) (x : Nat) : (s.touch x).freeCount = s.freeCount := by
  rfl
@[simp] theorem State.touch_plans (s : State) (x : Nat) : (s.touch x).plans = s.plans := by
  rfl
@[simp] theorem State.touch_cutting (s : State) (x : Nat) : (s.touch x).cutting = s.cutting := by
  rfl
@[simp] theorem State.touch_cost (s : State) (x : Nat) : (s.touch x).cost = s.cost := by
  rfl
@[simp] theorem State.touch_water (s : State) (x : Nat) : (s.touch x).water = s.water := by
  rfl
@[simp] theorem State.touch_gate (s : State) (x : Nat) : (s.touch x).gate = s.gate := by
  rfl
@[simp] theorem State.touch_line (s : State) (x : Nat) : (s.touch x).line = s.line := by
  rfl
@[simp] theorem State.touch_alarms (s : State) (x : Nat) : (s.touch x).alarms = s.alarms := by
  rfl
@[simp] theorem State.touch_office (s : State) (x : Nat) : (s.touch x).office = s.office := by
  rfl
@[simp] theorem State.touch_handler (s : State) (x : Nat) : (s.touch x).handler = s.handler := by
  rfl

@[simp] theorem State.putPlan_pending (s : State) (x : Plan) : (s.putPlan x).pending = s.pending := by
  rfl
@[simp] theorem State.putPlan_seconds (s : State) (x : Plan) : (s.putPlan x).seconds = s.seconds := by
  rfl
@[simp] theorem State.putPlan_freeCount (s : State) (x : Plan) : (s.putPlan x).freeCount = s.freeCount := by
  rfl
@[simp] theorem State.putPlan_stock (s : State) (x : Plan) : (s.putPlan x).stock = s.stock := by
  rfl
@[simp] theorem State.putPlan_cutting (s : State) (x : Plan) : (s.putPlan x).cutting = s.cutting := by
  rfl
@[simp] theorem State.putPlan_cost (s : State) (x : Plan) : (s.putPlan x).cost = s.cost := by
  rfl
@[simp] theorem State.putPlan_water (s : State) (x : Plan) : (s.putPlan x).water = s.water := by
  rfl
@[simp] theorem State.putPlan_gate (s : State) (x : Plan) : (s.putPlan x).gate = s.gate := by
  rfl
@[simp] theorem State.putPlan_line (s : State) (x : Plan) : (s.putPlan x).line = s.line := by
  rfl
@[simp] theorem State.putPlan_alarms (s : State) (x : Plan) : (s.putPlan x).alarms = s.alarms := by
  rfl
@[simp] theorem State.putPlan_office (s : State) (x : Plan) : (s.putPlan x).office = s.office := by
  rfl
@[simp] theorem State.putPlan_handler (s : State) (x : Plan) : (s.putPlan x).handler = s.handler := by
  rfl

@[simp] theorem State.dropPlan_pending (s : State) (x : Nat) : (s.dropPlan x).pending = s.pending := by
  rfl
@[simp] theorem State.dropPlan_seconds (s : State) (x : Nat) : (s.dropPlan x).seconds = s.seconds := by
  rfl
@[simp] theorem State.dropPlan_freeCount (s : State) (x : Nat) : (s.dropPlan x).freeCount = s.freeCount := by
  rfl
@[simp] theorem State.dropPlan_stock (s : State) (x : Nat) : (s.dropPlan x).stock = s.stock := by
  rfl
@[simp] theorem State.dropPlan_cutting (s : State) (x : Nat) : (s.dropPlan x).cutting = s.cutting := by
  rfl
@[simp] theorem State.dropPlan_cost (s : State) (x : Nat) : (s.dropPlan x).cost = s.cost := by
  rfl
@[simp] theorem State.dropPlan_water (s : State) (x : Nat) : (s.dropPlan x).water = s.water := by
  rfl
@[simp] theorem State.dropPlan_gate (s : State) (x : Nat) : (s.dropPlan x).gate = s.gate := by
  rfl
@[simp] theorem State.dropPlan_line (s : State) (x : Nat) : (s.dropPlan x).line = s.line := by
  rfl
@[simp] theorem State.dropPlan_alarms (s : State) (x : Nat) : (s.dropPlan x).alarms = s.alarms := by
  rfl
@[simp] theorem State.dropPlan_office (s : State) (x : Nat) : (s.dropPlan x).office = s.office := by
  rfl
@[simp] theorem State.dropPlan_handler (s : State) (x : Nat) : (s.dropPlan x).handler = s.handler := by
  rfl

@[simp] theorem State.putCutter_pending (s : State) (x : Cutter) : (s.putCutter x).pending = s.pending := by
  rfl
@[simp] theorem State.putCutter_seconds (s : State) (x : Cutter) : (s.putCutter x).seconds = s.seconds := by
  rfl
@[simp] theorem State.putCutter_freeCount (s : State) (x : Cutter) : (s.putCutter x).freeCount = s.freeCount := by
  rfl
@[simp] theorem State.putCutter_stock (s : State) (x : Cutter) : (s.putCutter x).stock = s.stock := by
  rfl
@[simp] theorem State.putCutter_plans (s : State) (x : Cutter) : (s.putCutter x).plans = s.plans := by
  rfl
@[simp] theorem State.putCutter_cost (s : State) (x : Cutter) : (s.putCutter x).cost = s.cost := by
  rfl
@[simp] theorem State.putCutter_water (s : State) (x : Cutter) : (s.putCutter x).water = s.water := by
  rfl
@[simp] theorem State.putCutter_gate (s : State) (x : Cutter) : (s.putCutter x).gate = s.gate := by
  rfl
@[simp] theorem State.putCutter_line (s : State) (x : Cutter) : (s.putCutter x).line = s.line := by
  rfl
@[simp] theorem State.putCutter_alarms (s : State) (x : Cutter) : (s.putCutter x).alarms = s.alarms := by
  rfl
@[simp] theorem State.putCutter_office (s : State) (x : Cutter) : (s.putCutter x).office = s.office := by
  rfl
@[simp] theorem State.putCutter_handler (s : State) (x : Cutter) : (s.putCutter x).handler = s.handler := by
  rfl

@[simp] theorem State.putRecord_pending (s : State) (x : CutRecord) : (s.putRecord x).pending = s.pending := by
  rfl
@[simp] theorem State.putRecord_seconds (s : State) (x : CutRecord) : (s.putRecord x).seconds = s.seconds := by
  rfl
@[simp] theorem State.putRecord_freeCount (s : State) (x : CutRecord) : (s.putRecord x).freeCount = s.freeCount := by
  rfl
@[simp] theorem State.putRecord_stock (s : State) (x : CutRecord) : (s.putRecord x).stock = s.stock := by
  rfl
@[simp] theorem State.putRecord_plans (s : State) (x : CutRecord) : (s.putRecord x).plans = s.plans := by
  rfl
@[simp] theorem State.putRecord_cost (s : State) (x : CutRecord) : (s.putRecord x).cost = s.cost := by
  rfl
@[simp] theorem State.putRecord_water (s : State) (x : CutRecord) : (s.putRecord x).water = s.water := by
  rfl
@[simp] theorem State.putRecord_gate (s : State) (x : CutRecord) : (s.putRecord x).gate = s.gate := by
  rfl
@[simp] theorem State.putRecord_line (s : State) (x : CutRecord) : (s.putRecord x).line = s.line := by
  rfl
@[simp] theorem State.putRecord_alarms (s : State) (x : CutRecord) : (s.putRecord x).alarms = s.alarms := by
  rfl
@[simp] theorem State.putRecord_office (s : State) (x : CutRecord) : (s.putRecord x).office = s.office := by
  rfl
@[simp] theorem State.putRecord_handler (s : State) (x : CutRecord) : (s.putRecord x).handler = s.handler := by
  rfl

@[simp] theorem State.putJob_pending (s : State) (x : Job) : (s.putJob x).pending = s.pending := by
  rfl
@[simp] theorem State.putJob_seconds (s : State) (x : Job) : (s.putJob x).seconds = s.seconds := by
  rfl
@[simp] theorem State.putJob_freeCount (s : State) (x : Job) : (s.putJob x).freeCount = s.freeCount := by
  rfl
@[simp] theorem State.putJob_stock (s : State) (x : Job) : (s.putJob x).stock = s.stock := by
  rfl
@[simp] theorem State.putJob_plans (s : State) (x : Job) : (s.putJob x).plans = s.plans := by
  rfl
@[simp] theorem State.putJob_cutting (s : State) (x : Job) : (s.putJob x).cutting = s.cutting := by
  rfl
@[simp] theorem State.putJob_water (s : State) (x : Job) : (s.putJob x).water = s.water := by
  rfl
@[simp] theorem State.putJob_gate (s : State) (x : Job) : (s.putJob x).gate = s.gate := by
  rfl
@[simp] theorem State.putJob_line (s : State) (x : Job) : (s.putJob x).line = s.line := by
  rfl
@[simp] theorem State.putJob_alarms (s : State) (x : Job) : (s.putJob x).alarms = s.alarms := by
  rfl
@[simp] theorem State.putJob_office (s : State) (x : Job) : (s.putJob x).office = s.office := by
  rfl
@[simp] theorem State.putJob_handler (s : State) (x : Job) : (s.putJob x).handler = s.handler := by
  rfl

@[simp] theorem State.putChannel_pending (s : State) (x : Channel) : (s.putChannel x).pending = s.pending := by
  rfl
@[simp] theorem State.putChannel_seconds (s : State) (x : Channel) : (s.putChannel x).seconds = s.seconds := by
  rfl
@[simp] theorem State.putChannel_freeCount (s : State) (x : Channel) : (s.putChannel x).freeCount = s.freeCount := by
  rfl
@[simp] theorem State.putChannel_stock (s : State) (x : Channel) : (s.putChannel x).stock = s.stock := by
  rfl
@[simp] theorem State.putChannel_plans (s : State) (x : Channel) : (s.putChannel x).plans = s.plans := by
  rfl
@[simp] theorem State.putChannel_cutting (s : State) (x : Channel) : (s.putChannel x).cutting = s.cutting := by
  rfl
@[simp] theorem State.putChannel_cost (s : State) (x : Channel) : (s.putChannel x).cost = s.cost := by
  rfl
@[simp] theorem State.putChannel_gate (s : State) (x : Channel) : (s.putChannel x).gate = s.gate := by
  rfl
@[simp] theorem State.putChannel_line (s : State) (x : Channel) : (s.putChannel x).line = s.line := by
  rfl
@[simp] theorem State.putChannel_alarms (s : State) (x : Channel) : (s.putChannel x).alarms = s.alarms := by
  rfl
@[simp] theorem State.putChannel_office (s : State) (x : Channel) : (s.putChannel x).office = s.office := by
  rfl
@[simp] theorem State.putChannel_handler (s : State) (x : Channel) : (s.putChannel x).handler = s.handler := by
  rfl

@[simp] theorem State.setEngine_pending (s : State) (x : Engine) : (s.setEngine x).pending = s.pending := by
  rfl
@[simp] theorem State.setEngine_seconds (s : State) (x : Engine) : (s.setEngine x).seconds = s.seconds := by
  rfl
@[simp] theorem State.setEngine_freeCount (s : State) (x : Engine) : (s.setEngine x).freeCount = s.freeCount := by
  rfl
@[simp] theorem State.setEngine_stock (s : State) (x : Engine) : (s.setEngine x).stock = s.stock := by
  rfl
@[simp] theorem State.setEngine_plans (s : State) (x : Engine) : (s.setEngine x).plans = s.plans := by
  rfl
@[simp] theorem State.setEngine_cutting (s : State) (x : Engine) : (s.setEngine x).cutting = s.cutting := by
  rfl
@[simp] theorem State.setEngine_cost (s : State) (x : Engine) : (s.setEngine x).cost = s.cost := by
  rfl
@[simp] theorem State.setEngine_gate (s : State) (x : Engine) : (s.setEngine x).gate = s.gate := by
  rfl
@[simp] theorem State.setEngine_line (s : State) (x : Engine) : (s.setEngine x).line = s.line := by
  rfl
@[simp] theorem State.setEngine_alarms (s : State) (x : Engine) : (s.setEngine x).alarms = s.alarms := by
  rfl
@[simp] theorem State.setEngine_office (s : State) (x : Engine) : (s.setEngine x).office = s.office := by
  rfl
@[simp] theorem State.setEngine_handler (s : State) (x : Engine) : (s.setEngine x).handler = s.handler := by
  rfl

@[simp] theorem State.putStation_pending (s : State) (x : Station) : (s.putStation x).pending = s.pending := by
  rfl
@[simp] theorem State.putStation_seconds (s : State) (x : Station) : (s.putStation x).seconds = s.seconds := by
  rfl
@[simp] theorem State.putStation_freeCount (s : State) (x : Station) : (s.putStation x).freeCount = s.freeCount := by
  rfl
@[simp] theorem State.putStation_stock (s : State) (x : Station) : (s.putStation x).stock = s.stock := by
  rfl
@[simp] theorem State.putStation_plans (s : State) (x : Station) : (s.putStation x).plans = s.plans := by
  rfl
@[simp] theorem State.putStation_cutting (s : State) (x : Station) : (s.putStation x).cutting = s.cutting := by
  rfl
@[simp] theorem State.putStation_cost (s : State) (x : Station) : (s.putStation x).cost = s.cost := by
  rfl
@[simp] theorem State.putStation_water (s : State) (x : Station) : (s.putStation x).water = s.water := by
  rfl
@[simp] theorem State.putStation_gate (s : State) (x : Station) : (s.putStation x).gate = s.gate := by
  rfl
@[simp] theorem State.putStation_alarms (s : State) (x : Station) : (s.putStation x).alarms = s.alarms := by
  rfl
@[simp] theorem State.putStation_office (s : State) (x : Station) : (s.putStation x).office = s.office := by
  rfl
@[simp] theorem State.putStation_handler (s : State) (x : Station) : (s.putStation x).handler = s.handler := by
  rfl

@[simp] theorem State.putOrigin_pending (s : State) (x : Origin) : (s.putOrigin x).pending = s.pending := by
  rfl
@[simp] theorem State.putOrigin_seconds (s : State) (x : Origin) : (s.putOrigin x).seconds = s.seconds := by
  rfl
@[simp] theorem State.putOrigin_freeCount (s : State) (x : Origin) : (s.putOrigin x).freeCount = s.freeCount := by
  rfl
@[simp] theorem State.putOrigin_stock (s : State) (x : Origin) : (s.putOrigin x).stock = s.stock := by
  rfl
@[simp] theorem State.putOrigin_plans (s : State) (x : Origin) : (s.putOrigin x).plans = s.plans := by
  rfl
@[simp] theorem State.putOrigin_cutting (s : State) (x : Origin) : (s.putOrigin x).cutting = s.cutting := by
  rfl
@[simp] theorem State.putOrigin_cost (s : State) (x : Origin) : (s.putOrigin x).cost = s.cost := by
  rfl
@[simp] theorem State.putOrigin_water (s : State) (x : Origin) : (s.putOrigin x).water = s.water := by
  rfl
@[simp] theorem State.putOrigin_gate (s : State) (x : Origin) : (s.putOrigin x).gate = s.gate := by
  rfl
@[simp] theorem State.putOrigin_line (s : State) (x : Origin) : (s.putOrigin x).line = s.line := by
  rfl
@[simp] theorem State.putOrigin_alarms (s : State) (x : Origin) : (s.putOrigin x).alarms = s.alarms := by
  rfl
@[simp] theorem State.putOrigin_office (s : State) (x : Origin) : (s.putOrigin x).office = s.office := by
  rfl

/-! ### Reports, line hold, raising an alarm -/

@[simp] theorem State.queueReport_pending (s : State) (b : ReportBody) : (s.queueReport b).pending = s.pending := by
  unfold State.queueReport; (repeat' split) <;> simp
@[simp] theorem State.queueReport_seconds (s : State) (b : ReportBody) : (s.queueReport b).seconds = s.seconds := by
  unfold State.queueReport; (repeat' split) <;> simp
@[simp] theorem State.queueReport_freeCount (s : State) (b : ReportBody) : (s.queueReport b).freeCount = s.freeCount := by
  unfold State.queueReport; (repeat' split) <;> simp
@[simp] theorem State.queueReport_stock (s : State) (b : ReportBody) : (s.queueReport b).stock = s.stock := by
  unfold State.queueReport; (repeat' split) <;> simp
@[simp] theorem State.queueReport_plans (s : State) (b : ReportBody) : (s.queueReport b).plans = s.plans := by
  unfold State.queueReport; (repeat' split) <;> simp
@[simp] theorem State.queueReport_cutting (s : State) (b : ReportBody) : (s.queueReport b).cutting = s.cutting := by
  unfold State.queueReport; (repeat' split) <;> simp
@[simp] theorem State.queueReport_cost (s : State) (b : ReportBody) : (s.queueReport b).cost = s.cost := by
  unfold State.queueReport; (repeat' split) <;> simp
@[simp] theorem State.queueReport_water (s : State) (b : ReportBody) : (s.queueReport b).water = s.water := by
  unfold State.queueReport; (repeat' split) <;> simp
@[simp] theorem State.queueReport_gate (s : State) (b : ReportBody) : (s.queueReport b).gate = s.gate := by
  unfold State.queueReport; (repeat' split) <;> simp
@[simp] theorem State.queueReport_line (s : State) (b : ReportBody) : (s.queueReport b).line = s.line := by
  unfold State.queueReport; (repeat' split) <;> simp
@[simp] theorem State.queueReport_office (s : State) (b : ReportBody) : (s.queueReport b).office = s.office := by
  unfold State.queueReport; (repeat' split) <;> simp
@[simp] theorem State.queueReport_handler (s : State) (b : ReportBody) : (s.queueReport b).handler = s.handler := by
  unfold State.queueReport; (repeat' split) <;> simp

@[simp] theorem State.stockReport_pending (s : State) (e : StockEvent) (id : Nat) : (s.stockReport e id).pending = s.pending := by
  simp [State.stockReport]
@[simp] theorem State.stockReport_seconds (s : State) (e : StockEvent) (id : Nat) : (s.stockReport e id).seconds = s.seconds := by
  simp [State.stockReport]
@[simp] theorem State.stockReport_freeCount (s : State) (e : StockEvent) (id : Nat) : (s.stockReport e id).freeCount = s.freeCount := by
  simp [State.stockReport]
@[simp] theorem State.stockReport_stock (s : State) (e : StockEvent) (id : Nat) : (s.stockReport e id).stock = s.stock := by
  simp [State.stockReport]
@[simp] theorem State.stockReport_plans (s : State) (e : StockEvent) (id : Nat) : (s.stockReport e id).plans = s.plans := by
  simp [State.stockReport]
@[simp] theorem State.stockReport_cutting (s : State) (e : StockEvent) (id : Nat) : (s.stockReport e id).cutting = s.cutting := by
  simp [State.stockReport]
@[simp] theorem State.stockReport_cost (s : State) (e : StockEvent) (id : Nat) : (s.stockReport e id).cost = s.cost := by
  simp [State.stockReport]
@[simp] theorem State.stockReport_water (s : State) (e : StockEvent) (id : Nat) : (s.stockReport e id).water = s.water := by
  simp [State.stockReport]
@[simp] theorem State.stockReport_gate (s : State) (e : StockEvent) (id : Nat) : (s.stockReport e id).gate = s.gate := by
  simp [State.stockReport]
@[simp] theorem State.stockReport_line (s : State) (e : StockEvent) (id : Nat) : (s.stockReport e id).line = s.line := by
  simp [State.stockReport]
@[simp] theorem State.stockReport_office (s : State) (e : StockEvent) (id : Nat) : (s.stockReport e id).office = s.office := by
  simp [State.stockReport]
@[simp] theorem State.stockReport_handler (s : State) (e : StockEvent) (id : Nat) : (s.stockReport e id).handler = s.handler := by
  simp [State.stockReport]

@[simp] theorem State.changeBroadcast_pending (s : State) (f : Broadcast → Broadcast) :
    (s.changeBroadcast f).pending = s.pending := rfl
@[simp] theorem State.changeBroadcast_seconds (s : State) (f : Broadcast → Broadcast) :
    (s.changeBroadcast f).seconds = s.seconds := rfl
@[simp] theorem State.changeBroadcast_freeCount (s : State) (f : Broadcast → Broadcast) :
    (s.changeBroadcast f).freeCount = s.freeCount := rfl
@[simp] theorem State.changeBroadcast_stock (s : State) (f : Broadcast → Broadcast) :
    (s.changeBroadcast f).stock = s.stock := rfl
@[simp] theorem State.changeBroadcast_plans (s : State) (f : Broadcast → Broadcast) :
    (s.changeBroadcast f).plans = s.plans := rfl
@[simp] theorem State.changeBroadcast_cutting (s : State) (f : Broadcast → Broadcast) :
    (s.changeBroadcast f).cutting = s.cutting := rfl
@[simp] theorem State.changeBroadcast_cost (s : State) (f : Broadcast → Broadcast) :
    (s.changeBroadcast f).cost = s.cost := rfl
@[simp] theorem State.changeBroadcast_water (s : State) (f : Broadcast → Broadcast) :
    (s.changeBroadcast f).water = s.water := rfl
@[simp] theorem State.changeBroadcast_gate (s : State) (f : Broadcast → Broadcast) :
    (s.changeBroadcast f).gate = s.gate := rfl
@[simp] theorem State.changeBroadcast_alarms (s : State) (f : Broadcast → Broadcast) :
    (s.changeBroadcast f).alarms = s.alarms := rfl
@[simp] theorem State.changeBroadcast_office (s : State) (f : Broadcast → Broadcast) :
    (s.changeBroadcast f).office = s.office := rfl
@[simp] theorem State.changeBroadcast_handler (s : State) (f : Broadcast → Broadcast) :
    (s.changeBroadcast f).handler = s.handler := rfl
/-- A broadcast rewritten is all that changes at the line port. -/
@[simp] theorem State.changeBroadcast_line (s : State) (f : Broadcast → Broadcast) :
    (s.changeBroadcast f).line = { s.line with broadcast := s.line.broadcast.map f } := rfl

@[simp] theorem State.noteRemoved_pending (s : State) (n : Nat) : (s.noteRemoved n).pending = s.pending := rfl
@[simp] theorem State.noteRemoved_seconds (s : State) (n : Nat) : (s.noteRemoved n).seconds = s.seconds := rfl
@[simp] theorem State.noteRemoved_freeCount (s : State) (n : Nat) : (s.noteRemoved n).freeCount = s.freeCount := rfl
@[simp] theorem State.noteRemoved_stock (s : State) (n : Nat) : (s.noteRemoved n).stock = s.stock := rfl
@[simp] theorem State.noteRemoved_plans (s : State) (n : Nat) : (s.noteRemoved n).plans = s.plans := rfl
@[simp] theorem State.noteRemoved_cutting (s : State) (n : Nat) : (s.noteRemoved n).cutting = s.cutting := rfl
@[simp] theorem State.noteRemoved_cost (s : State) (n : Nat) : (s.noteRemoved n).cost = s.cost := rfl
@[simp] theorem State.noteRemoved_water (s : State) (n : Nat) : (s.noteRemoved n).water = s.water := rfl
@[simp] theorem State.noteRemoved_gate (s : State) (n : Nat) : (s.noteRemoved n).gate = s.gate := rfl
@[simp] theorem State.noteRemoved_alarms (s : State) (n : Nat) : (s.noteRemoved n).alarms = s.alarms := rfl
@[simp] theorem State.noteRemoved_office (s : State) (n : Nat) : (s.noteRemoved n).office = s.office := rfl
@[simp] theorem State.noteRemoved_handler (s : State) (n : Nat) : (s.noteRemoved n).handler = s.handler := rfl

@[simp] theorem State.noteRebound_pending (s : State) (n : Nat) : (s.noteRebound n).pending = s.pending := rfl
@[simp] theorem State.noteRebound_seconds (s : State) (n : Nat) : (s.noteRebound n).seconds = s.seconds := rfl
@[simp] theorem State.noteRebound_freeCount (s : State) (n : Nat) : (s.noteRebound n).freeCount = s.freeCount := rfl
@[simp] theorem State.noteRebound_stock (s : State) (n : Nat) : (s.noteRebound n).stock = s.stock := rfl
@[simp] theorem State.noteRebound_plans (s : State) (n : Nat) : (s.noteRebound n).plans = s.plans := rfl
@[simp] theorem State.noteRebound_cutting (s : State) (n : Nat) : (s.noteRebound n).cutting = s.cutting := rfl
@[simp] theorem State.noteRebound_cost (s : State) (n : Nat) : (s.noteRebound n).cost = s.cost := rfl
@[simp] theorem State.noteRebound_water (s : State) (n : Nat) : (s.noteRebound n).water = s.water := rfl
@[simp] theorem State.noteRebound_gate (s : State) (n : Nat) : (s.noteRebound n).gate = s.gate := rfl
@[simp] theorem State.noteRebound_alarms (s : State) (n : Nat) : (s.noteRebound n).alarms = s.alarms := rfl
@[simp] theorem State.noteRebound_office (s : State) (n : Nat) : (s.noteRebound n).office = s.office := rfl
@[simp] theorem State.noteRebound_handler (s : State) (n : Nat) : (s.noteRebound n).handler = s.handler := rfl

@[simp] theorem State.orderBroadcast_pending (s : State) (k : BroadcastKind) : (s.orderBroadcast k).pending = s.pending := by
  unfold State.orderBroadcast; (repeat' split) <;> simp
@[simp] theorem State.orderBroadcast_seconds (s : State) (k : BroadcastKind) : (s.orderBroadcast k).seconds = s.seconds := by
  unfold State.orderBroadcast; (repeat' split) <;> simp
@[simp] theorem State.orderBroadcast_freeCount (s : State) (k : BroadcastKind) : (s.orderBroadcast k).freeCount = s.freeCount := by
  unfold State.orderBroadcast; (repeat' split) <;> simp
@[simp] theorem State.orderBroadcast_stock (s : State) (k : BroadcastKind) : (s.orderBroadcast k).stock = s.stock := by
  unfold State.orderBroadcast; (repeat' split) <;> simp
@[simp] theorem State.orderBroadcast_plans (s : State) (k : BroadcastKind) : (s.orderBroadcast k).plans = s.plans := by
  unfold State.orderBroadcast; (repeat' split) <;> simp
@[simp] theorem State.orderBroadcast_cutting (s : State) (k : BroadcastKind) : (s.orderBroadcast k).cutting = s.cutting := by
  unfold State.orderBroadcast; (repeat' split) <;> simp
@[simp] theorem State.orderBroadcast_cost (s : State) (k : BroadcastKind) : (s.orderBroadcast k).cost = s.cost := by
  unfold State.orderBroadcast; (repeat' split) <;> simp
@[simp] theorem State.orderBroadcast_water (s : State) (k : BroadcastKind) : (s.orderBroadcast k).water = s.water := by
  unfold State.orderBroadcast; (repeat' split) <;> simp
@[simp] theorem State.orderBroadcast_gate (s : State) (k : BroadcastKind) : (s.orderBroadcast k).gate = s.gate := by
  unfold State.orderBroadcast; (repeat' split) <;> simp
@[simp] theorem State.orderBroadcast_alarms (s : State) (k : BroadcastKind) : (s.orderBroadcast k).alarms = s.alarms := by
  unfold State.orderBroadcast; (repeat' split) <;> simp
@[simp] theorem State.orderBroadcast_office (s : State) (k : BroadcastKind) : (s.orderBroadcast k).office = s.office := by
  unfold State.orderBroadcast; (repeat' split) <;> simp
@[simp] theorem State.orderBroadcast_handler (s : State) (k : BroadcastKind) : (s.orderBroadcast k).handler = s.handler := by
  unfold State.orderBroadcast; (repeat' split) <;> simp

@[simp] theorem State.recomputeHold_pending (s : State) : (s.recomputeHold).pending = s.pending := by
  unfold State.recomputeHold; dsimp only; (repeat' split) <;> simp
@[simp] theorem State.recomputeHold_seconds (s : State) : (s.recomputeHold).seconds = s.seconds := by
  unfold State.recomputeHold; dsimp only; (repeat' split) <;> simp
@[simp] theorem State.recomputeHold_freeCount (s : State) : (s.recomputeHold).freeCount = s.freeCount := by
  unfold State.recomputeHold; dsimp only; (repeat' split) <;> simp
@[simp] theorem State.recomputeHold_stock (s : State) : (s.recomputeHold).stock = s.stock := by
  unfold State.recomputeHold; dsimp only; (repeat' split) <;> simp
@[simp] theorem State.recomputeHold_plans (s : State) : (s.recomputeHold).plans = s.plans := by
  unfold State.recomputeHold; dsimp only; (repeat' split) <;> simp
@[simp] theorem State.recomputeHold_cutting (s : State) : (s.recomputeHold).cutting = s.cutting := by
  unfold State.recomputeHold; dsimp only; (repeat' split) <;> simp
@[simp] theorem State.recomputeHold_cost (s : State) : (s.recomputeHold).cost = s.cost := by
  unfold State.recomputeHold; dsimp only; (repeat' split) <;> simp
@[simp] theorem State.recomputeHold_water (s : State) : (s.recomputeHold).water = s.water := by
  unfold State.recomputeHold; dsimp only; (repeat' split) <;> simp
@[simp] theorem State.recomputeHold_office (s : State) : (s.recomputeHold).office = s.office := by
  unfold State.recomputeHold; dsimp only; (repeat' split) <;> simp
@[simp] theorem State.recomputeHold_handler (s : State) : (s.recomputeHold).handler = s.handler := by
  unfold State.recomputeHold; dsimp only; (repeat' split) <;> simp

@[simp] theorem State.tellAlarmSource_pending (s : State) (a : Bool) : (s.tellAlarmSource a).pending = s.pending := by
  unfold State.tellAlarmSource; simp
@[simp] theorem State.tellAlarmSource_seconds (s : State) (a : Bool) : (s.tellAlarmSource a).seconds = s.seconds := by
  unfold State.tellAlarmSource; simp
@[simp] theorem State.tellAlarmSource_freeCount (s : State) (a : Bool) : (s.tellAlarmSource a).freeCount = s.freeCount := by
  unfold State.tellAlarmSource; simp
@[simp] theorem State.tellAlarmSource_stock (s : State) (a : Bool) : (s.tellAlarmSource a).stock = s.stock := by
  unfold State.tellAlarmSource; simp
@[simp] theorem State.tellAlarmSource_plans (s : State) (a : Bool) : (s.tellAlarmSource a).plans = s.plans := by
  unfold State.tellAlarmSource; simp
@[simp] theorem State.tellAlarmSource_cutting (s : State) (a : Bool) : (s.tellAlarmSource a).cutting = s.cutting := by
  unfold State.tellAlarmSource; simp
@[simp] theorem State.tellAlarmSource_cost (s : State) (a : Bool) : (s.tellAlarmSource a).cost = s.cost := by
  unfold State.tellAlarmSource; simp
@[simp] theorem State.tellAlarmSource_water (s : State) (a : Bool) : (s.tellAlarmSource a).water = s.water := by
  unfold State.tellAlarmSource; simp
@[simp] theorem State.tellAlarmSource_office (s : State) (a : Bool) : (s.tellAlarmSource a).office = s.office := by
  unfold State.tellAlarmSource; simp
@[simp] theorem State.tellAlarmSource_handler (s : State) (a : Bool) : (s.tellAlarmSource a).handler = s.handler := by
  unfold State.tellAlarmSource; simp

@[simp] theorem State.raise_pending (s : State) (k : AlarmKind) (n : Nat) : (s.raise k n).pending = s.pending := by
  unfold State.raise; dsimp only; split <;> simp
@[simp] theorem State.raise_seconds (s : State) (k : AlarmKind) (n : Nat) : (s.raise k n).seconds = s.seconds := by
  unfold State.raise; dsimp only; split <;> simp
@[simp] theorem State.raise_freeCount (s : State) (k : AlarmKind) (n : Nat) : (s.raise k n).freeCount = s.freeCount := by
  unfold State.raise; dsimp only; split <;> simp
@[simp] theorem State.raise_stock (s : State) (k : AlarmKind) (n : Nat) : (s.raise k n).stock = s.stock := by
  unfold State.raise; dsimp only; split <;> simp
@[simp] theorem State.raise_plans (s : State) (k : AlarmKind) (n : Nat) : (s.raise k n).plans = s.plans := by
  unfold State.raise; dsimp only; split <;> simp
@[simp] theorem State.raise_cutting (s : State) (k : AlarmKind) (n : Nat) : (s.raise k n).cutting = s.cutting := by
  unfold State.raise; dsimp only; split <;> simp
@[simp] theorem State.raise_cost (s : State) (k : AlarmKind) (n : Nat) : (s.raise k n).cost = s.cost := by
  unfold State.raise; dsimp only; split <;> simp
@[simp] theorem State.raise_water (s : State) (k : AlarmKind) (n : Nat) : (s.raise k n).water = s.water := by
  unfold State.raise; dsimp only; split <;> simp
@[simp] theorem State.raise_office (s : State) (k : AlarmKind) (n : Nat) : (s.raise k n).office = s.office := by
  unfold State.raise; dsimp only; split <;> simp
@[simp] theorem State.raise_handler (s : State) (k : AlarmKind) (n : Nat) : (s.raise k n).handler = s.handler := by
  unfold State.raise; dsimp only; split <;> simp

/-! ### Charges -/

@[simp] theorem State.addCharge_pending (s : State) (n : Nat) (c : Charge) : (s.addCharge n c).pending = s.pending := by
  unfold State.addCharge; dsimp only; (repeat' split) <;> simp
@[simp] theorem State.addCharge_seconds (s : State) (n : Nat) (c : Charge) : (s.addCharge n c).seconds = s.seconds := by
  unfold State.addCharge; dsimp only; (repeat' split) <;> simp
@[simp] theorem State.addCharge_freeCount (s : State) (n : Nat) (c : Charge) : (s.addCharge n c).freeCount = s.freeCount := by
  unfold State.addCharge; dsimp only; (repeat' split) <;> simp
@[simp] theorem State.addCharge_stock (s : State) (n : Nat) (c : Charge) : (s.addCharge n c).stock = s.stock := by
  unfold State.addCharge; dsimp only; (repeat' split) <;> simp
@[simp] theorem State.addCharge_plans (s : State) (n : Nat) (c : Charge) : (s.addCharge n c).plans = s.plans := by
  unfold State.addCharge; dsimp only; (repeat' split) <;> simp
@[simp] theorem State.addCharge_cutting (s : State) (n : Nat) (c : Charge) : (s.addCharge n c).cutting = s.cutting := by
  unfold State.addCharge; dsimp only; (repeat' split) <;> simp
@[simp] theorem State.addCharge_water (s : State) (n : Nat) (c : Charge) : (s.addCharge n c).water = s.water := by
  unfold State.addCharge; dsimp only; (repeat' split) <;> simp
@[simp] theorem State.addCharge_office (s : State) (n : Nat) (c : Charge) : (s.addCharge n c).office = s.office := by
  unfold State.addCharge; dsimp only; (repeat' split) <;> simp
@[simp] theorem State.addCharge_handler (s : State) (n : Nat) (c : Charge) : (s.addCharge n c).handler = s.handler := by
  unfold State.addCharge; dsimp only; (repeat' split) <;> simp

@[simp] theorem State.chargeStone_pending (s : State) (n a b : Nat) : (s.chargeStone n a b).pending = s.pending := by
  unfold State.chargeStone; simp
@[simp] theorem State.chargeStone_seconds (s : State) (n a b : Nat) : (s.chargeStone n a b).seconds = s.seconds := by
  unfold State.chargeStone; simp
@[simp] theorem State.chargeStone_freeCount (s : State) (n a b : Nat) : (s.chargeStone n a b).freeCount = s.freeCount := by
  unfold State.chargeStone; simp
@[simp] theorem State.chargeStone_stock (s : State) (n a b : Nat) : (s.chargeStone n a b).stock = s.stock := by
  unfold State.chargeStone; simp
@[simp] theorem State.chargeStone_plans (s : State) (n a b : Nat) : (s.chargeStone n a b).plans = s.plans := by
  unfold State.chargeStone; simp
@[simp] theorem State.chargeStone_cutting (s : State) (n a b : Nat) : (s.chargeStone n a b).cutting = s.cutting := by
  unfold State.chargeStone; simp
@[simp] theorem State.chargeStone_water (s : State) (n a b : Nat) : (s.chargeStone n a b).water = s.water := by
  unfold State.chargeStone; simp
@[simp] theorem State.chargeStone_office (s : State) (n a b : Nat) : (s.chargeStone n a b).office = s.office := by
  unfold State.chargeStone; simp
@[simp] theorem State.chargeStone_handler (s : State) (n a b : Nat) : (s.chargeStone n a b).handler = s.handler := by
  unfold State.chargeStone; simp

end Sys2Proof.Machine
end

