-- ==== Sys2Proof/Laws/Tables.lean ====
section
/-! SUPPORT. A keyed table reads back what was put, and nothing else changes. -/

namespace Sys2Proof.Machine

variable {α : Type} (key : α → Nat)

@[simp] theorem lookup_nil (k : Nat) : lookup key k [] = none := rfl

theorem lookup_cons (k : Nat) (a : α) (l : List α) :
    lookup key k (a :: l) = if key a = k then some a else lookup key k l := by
  by_cases h : key a = k
  · simp [lookup, h]
  · have : (key a == k) = false := by simpa using h
    simp [lookup, this, h]

theorem lookup_key {k : Nat} {l : List α} {a : α} (h : lookup key k l = some a) : key a = k := by
  unfold lookup at h
  simpa using List.find?_some h

theorem lookup_mem {k : Nat} {l : List α} {a : α} (h : lookup key k l = some a) : a ∈ l :=
  List.mem_of_find?_eq_some h

/-- A record that was put is found under its key. -/
@[simp] theorem lookup_put_self (a : α) (l : List α) : lookup key (key a) (put key a l) = some a := by
  induction l with
  | nil => simp [put, lookup_cons]
  | cons b l ih =>
    unfold put
    split
    · simp [lookup_cons]
    · split
      · simp [lookup_cons]
      · rename_i h; simp [lookup_cons, ih, Ne.symm h]

/-- Putting a record leaves every other key alone. -/
theorem lookup_put_other {k : Nat} (a : α) (l : List α) (h : key a ≠ k) :
    lookup key k (put key a l) = lookup key k l := by
  induction l with
  | nil => simp [put, lookup_cons, h]
  | cons b l ih =>
    unfold put
    split
    · simp [lookup_cons, h]
    · split
      · rename_i h' ; simp [lookup_cons, h, ← h']
      · simp [lookup_cons, ih]

/-- A removed key is found no more. -/
@[simp] theorem lookup_remove_self (k : Nat) (l : List α) : lookup key k (remove key k l) = none := by
  induction l with
  | nil => rfl
  | cons b l ih =>
    unfold remove at *
    by_cases h : key b = k <;> simp [h, ih, lookup_cons]

/-- Removing a key leaves every other key alone. -/
theorem lookup_remove_other {k j : Nat} (l : List α) (h : k ≠ j) : lookup key j (remove key k l) = lookup key j l := by
  induction l with
  | nil => rfl
  | cons b l ih =>
    unfold remove at *
    by_cases hb : key b = k
    · have hj : key b ≠ j := fun e => h (hb ▸ e)
      simp [hb, ih, lookup_cons, h]
    · simp [hb, ih, lookup_cons]

/-- What a table holds after a put. -/
theorem lookup_put {k : Nat} (a : α) (l : List α) :
    lookup key k (put key a l) = if key a = k then some a else lookup key k l := by
  split
  · rename_i h; rw [← h]; exact lookup_put_self key a l
  · rename_i h; exact lookup_put_other key a l h

/-- What a table holds after a removal. -/
theorem lookup_remove {k j : Nat} (l : List α) :
    lookup key j (remove key k l) = if k = j then none else lookup key j l := by
  split
  · rename_i h; rw [← h]; exact lookup_remove_self key k l
  · rename_i h; exact lookup_remove_other key l h

/-- Where a record of the key stands, putting does not lengthen the table; otherwise by one. -/
theorem length_put_le (a : α) (l : List α) : (put key a l).length ≤ l.length + 1 := by
  induction l with
  | nil => simp [put]
  | cons b l ih =>
    unfold put
    split
    · simp
    · split
      · simp
      · simpa using ih

theorem length_remove_le (k : Nat) (l : List α) : (remove key k l).length ≤ l.length := List.length_filter_le _ _

theorem mem_put {x a : α} {l : List α} (h : x ∈ put key a l) : x = a ∨ x ∈ l := by
  induction l with
  | nil => simpa [put] using h
  | cons b l ih =>
    unfold put at h
    split at h
    · simpa using h
    · split at h
      · rcases List.mem_cons.1 h with h | h
        · exact .inl h
        · exact .inr (List.mem_cons_of_mem _ h)
      · rcases List.mem_cons.1 h with h | h
        · exact .inr (h ▸ List.mem_cons_self)
        · rcases ih h with h | h
          · exact .inl h
          · exact .inr (List.mem_cons_of_mem _ h)

end Sys2Proof.Machine
end

