-- ==== Sys2Proof/Laws/Lookups.lean ====
section
/-! SUPPORT. What each table holds after a record is put into it or taken out of it. -/

namespace Sys2Proof.Machine

@[simp] theorem slab_putSlab (s : State) (x : Slab) (k : Nat) :
    (s.putSlab x).slab? k = if x.id = k then some x else s.slab? k := lookup_put Slab.id x _
theorem slab_key {s : State} {k : Nat} {x : Slab} (h : s.slab? k = some x) : x.id = k := lookup_key Slab.id h

@[simp] theorem plan_putPlan (s : State) (x : Plan) (k : Nat) :
    (s.putPlan x).plan? k = if x.slab = k then some x else s.plan? k := lookup_put Plan.slab x _
theorem plan_key {s : State} {k : Nat} {x : Plan} (h : s.plan? k = some x) : x.slab = k := lookup_key Plan.slab h

@[simp] theorem cutter_putCutter (s : State) (x : Cutter) (k : Nat) :
    (s.putCutter x).cutter? k = if x.number = k then some x else s.cutter? k := lookup_put Cutter.number x _
theorem cutter_key {s : State} {k : Nat} {x : Cutter} (h : s.cutter? k = some x) : x.number = k := lookup_key Cutter.number h

@[simp] theorem record_putRecord (s : State) (x : CutRecord) (k : Nat) :
    (s.putRecord x).record? k = if x.id = k then some x else s.record? k := lookup_put CutRecord.id x _
theorem record_key {s : State} {k : Nat} {x : CutRecord} (h : s.record? k = some x) : x.id = k := lookup_key CutRecord.id h

@[simp] theorem channel_putChannel (s : State) (x : Channel) (k : Nat) :
    (s.putChannel x).channel? k = if x.number = k then some x else s.channel? k := lookup_put Channel.number x _
theorem channel_key {s : State} {k : Nat} {x : Channel} (h : s.channel? k = some x) : x.number = k := lookup_key Channel.number h

@[simp] theorem station_putStation (s : State) (x : Station) (k : Nat) :
    (s.putStation x).station? k = if x.address = k then some x else s.station? k := lookup_put Station.address x _
theorem station_key {s : State} {k : Nat} {x : Station} (h : s.station? k = some x) : x.address = k := lookup_key Station.address h

@[simp] theorem origin_putOrigin (s : State) (x : Origin) (k : Nat) :
    (s.putOrigin x).origin? k = if x.number = k then some x else s.origin? k := lookup_put Origin.number x _
theorem origin_key {s : State} {k : Nat} {x : Origin} (h : s.origin? k = some x) : x.number = k := lookup_key Origin.number h

@[simp] theorem slab_dropSlab (s : State) (j k : Nat) : (s.dropSlab j).slab? k = if j = k then none else s.slab? k :=
  lookup_remove Slab.id _
@[simp] theorem plan_dropPlan (s : State) (j k : Nat) : (s.dropPlan j).plan? k = if j = k then none else s.plan? k :=
  lookup_remove Plan.slab _
@[simp] theorem job_putJob (s : State) (x : Job) (k : Nat) : (s.putJob x).job k = if x.number = k then x else s.job k := by
  simp only [State.job, State.putJob, State.setCost, lookup_put]
  split <;> rfl
/-- The record found for a job carries its number. -/
@[simp] theorem job_number (s : State) (n : Nat) : (s.job n).number = n := by
  unfold State.job
  cases h : lookup Job.number n s.cost.jobs with
  | none => rfl
  | some j => exact lookup_key Job.number h

/-! ### A table is looked up in its own block alone -/

theorem slab_of_same {s t : State} (h : t.stock = s.stock) (k : Nat) : t.slab? k = s.slab? k := by
  simp only [State.slab?, h]
theorem plan_of_same {s t : State} (h : t.plans = s.plans) (k : Nat) : t.plan? k = s.plan? k := by
  simp only [State.plan?, h]
theorem cutter_of_same {s t : State} (h : t.cutting = s.cutting) (k : Nat) : t.cutter? k = s.cutter? k := by
  simp only [State.cutter?, h]
theorem record_of_same {s t : State} (h : t.cutting = s.cutting) (k : Nat) : t.record? k = s.record? k := by
  simp only [State.record?, h]
theorem job_of_same {s t : State} (h : t.cost = s.cost) (k : Nat) : t.job k = s.job k := by
  simp only [State.job, h]
theorem station_of_same {s t : State} (h : t.line.roster = s.line.roster) (k : Nat) : t.station? k = s.station? k := by
  simp only [State.station?, h]
theorem channel_of_same {s t : State} (h : t.water.channels = s.water.channels) (k : Nat) : t.channel? k = s.channel? k := by
  simp only [State.channel?, h]
theorem origin_of_same {s t : State} (h : t.handler.origins = s.handler.origins) (k : Nat) : t.origin? k = s.origin? k := by
  simp only [State.origin?, h]

end Sys2Proof.Machine
end

