-- ==== Sys2Proof/Laws/Records.lean ====
section
/-! SUPPORT. What the operations on plans, cut records and the waiting list leave alone: one lemma for each block an operation does not touch. -/

namespace Sys2Proof.Machine

@[simp] theorem State.project_pending (s : State) (x : Nat) : (s.project x).pending = s.pending := by
  unfold State.project; (repeat' split) <;> simp
@[simp] theorem State.project_seconds (s : State) (x : Nat) : (s.project x).seconds = s.seconds := by
  unfold State.project; (repeat' split) <;> simp
@[simp] theorem State.project_freeCount (s : State) (x : Nat) : (s.project x).freeCount = s.freeCount := by
  unfold State.project; (repeat' split) <;> simp
@[simp] theorem State.project_stock (s : State) (x : Nat) : (s.project x).stock = s.stock := by
  unfold State.project; (repeat' split) <;> simp
@[simp] theorem State.project_cutting (s : State) (x : Nat) : (s.project x).cutting = s.cutting := by
  unfold State.project; (repeat' split) <;> simp
@[simp] theorem State.project_cost (s : State) (x : Nat) : (s.project x).cost = s.cost := by
  unfold State.project; (repeat' split) <;> simp
@[simp] theorem State.project_water (s : State) (x : Nat) : (s.project x).water = s.water := by
  unfold State.project; (repeat' split) <;> simp
@[simp] theorem State.project_gate (s : State) (x : Nat) : (s.project x).gate = s.gate := by
  unfold State.project; (repeat' split) <;> simp
@[simp] theorem State.project_line (s : State) (x : Nat) : (s.project x).line = s.line := by
  unfold State.project; (repeat' split) <;> simp
@[simp] theorem State.project_alarms (s : State) (x : Nat) : (s.project x).alarms = s.alarms := by
  unfold State.project; (repeat' split) <;> simp
@[simp] theorem State.project_office (s : State) (x : Nat) : (s.project x).office = s.office := by
  unfold State.project; (repeat' split) <;> simp
@[simp] theorem State.project_handler (s : State) (x : Nat) : (s.project x).handler = s.handler := by
  unfold State.project; (repeat' split) <;> simp

@[simp] theorem State.changeStep_pending (s : State) (x n : Nat) (f : Step → Step) : (s.changeStep x n f).pending = s.pending := by
  unfold State.changeStep; (repeat' split) <;> simp
@[simp] theorem State.changeStep_seconds (s : State) (x n : Nat) (f : Step → Step) : (s.changeStep x n f).seconds = s.seconds := by
  unfold State.changeStep; (repeat' split) <;> simp
@[simp] theorem State.changeStep_freeCount (s : State) (x n : Nat) (f : Step → Step) : (s.changeStep x n f).freeCount = s.freeCount := by
  unfold State.changeStep; (repeat' split) <;> simp
@[simp] theorem State.changeStep_stock (s : State) (x n : Nat) (f : Step → Step) : (s.changeStep x n f).stock = s.stock := by
  unfold State.changeStep; (repeat' split) <;> simp
@[simp] theorem State.changeStep_cutting (s : State) (x n : Nat) (f : Step → Step) : (s.changeStep x n f).cutting = s.cutting := by
  unfold State.changeStep; (repeat' split) <;> simp
@[simp] theorem State.changeStep_cost (s : State) (x n : Nat) (f : Step → Step) : (s.changeStep x n f).cost = s.cost := by
  unfold State.changeStep; (repeat' split) <;> simp
@[simp] theorem State.changeStep_water (s : State) (x n : Nat) (f : Step → Step) : (s.changeStep x n f).water = s.water := by
  unfold State.changeStep; (repeat' split) <;> simp
@[simp] theorem State.changeStep_gate (s : State) (x n : Nat) (f : Step → Step) : (s.changeStep x n f).gate = s.gate := by
  unfold State.changeStep; (repeat' split) <;> simp
@[simp] theorem State.changeStep_line (s : State) (x n : Nat) (f : Step → Step) : (s.changeStep x n f).line = s.line := by
  unfold State.changeStep; (repeat' split) <;> simp
@[simp] theorem State.changeStep_alarms (s : State) (x n : Nat) (f : Step → Step) : (s.changeStep x n f).alarms = s.alarms := by
  unfold State.changeStep; (repeat' split) <;> simp
@[simp] theorem State.changeStep_office (s : State) (x n : Nat) (f : Step → Step) : (s.changeStep x n f).office = s.office := by
  unfold State.changeStep; (repeat' split) <;> simp
@[simp] theorem State.changeStep_handler (s : State) (x n : Nat) (f : Step → Step) : (s.changeStep x n f).handler = s.handler := by
  unfold State.changeStep; (repeat' split) <;> simp

@[simp] theorem State.issueStep_pending (s : State) (x n : Nat) : (s.issueStep x n).pending = s.pending := by
  unfold State.issueStep; simp
@[simp] theorem State.issueStep_seconds (s : State) (x n : Nat) : (s.issueStep x n).seconds = s.seconds := by
  unfold State.issueStep; simp
@[simp] theorem State.issueStep_freeCount (s : State) (x n : Nat) : (s.issueStep x n).freeCount = s.freeCount := by
  unfold State.issueStep; simp
@[simp] theorem State.issueStep_stock (s : State) (x n : Nat) : (s.issueStep x n).stock = s.stock := by
  unfold State.issueStep; simp
@[simp] theorem State.issueStep_cutting (s : State) (x n : Nat) : (s.issueStep x n).cutting = s.cutting := by
  unfold State.issueStep; simp
@[simp] theorem State.issueStep_cost (s : State) (x n : Nat) : (s.issueStep x n).cost = s.cost := by
  unfold State.issueStep; simp
@[simp] theorem State.issueStep_water (s : State) (x n : Nat) : (s.issueStep x n).water = s.water := by
  unfold State.issueStep; simp
@[simp] theorem State.issueStep_gate (s : State) (x n : Nat) : (s.issueStep x n).gate = s.gate := by
  unfold State.issueStep; simp
@[simp] theorem State.issueStep_line (s : State) (x n : Nat) : (s.issueStep x n).line = s.line := by
  unfold State.issueStep; simp
@[simp] theorem State.issueStep_alarms (s : State) (x n : Nat) : (s.issueStep x n).alarms = s.alarms := by
  unfold State.issueStep; simp
@[simp] theorem State.issueStep_office (s : State) (x n : Nat) : (s.issueStep x n).office = s.office := by
  unfold State.issueStep; simp
@[simp] theorem State.issueStep_handler (s : State) (x n : Nat) : (s.issueStep x n).handler = s.handler := by
  unfold State.issueStep; simp

@[simp] theorem State.giveBack_pending (s : State) (x n : Nat) : (s.giveBack x n).pending = s.pending := by
  unfold State.giveBack; simp
@[simp] theorem State.giveBack_seconds (s : State) (x n : Nat) : (s.giveBack x n).seconds = s.seconds := by
  unfold State.giveBack; simp
@[simp] theorem State.giveBack_freeCount (s : State) (x n : Nat) : (s.giveBack x n).freeCount = s.freeCount := by
  unfold State.giveBack; simp
@[simp] theorem State.giveBack_stock (s : State) (x n : Nat) : (s.giveBack x n).stock = s.stock := by
  unfold State.giveBack; simp
@[simp] theorem State.giveBack_cutting (s : State) (x n : Nat) : (s.giveBack x n).cutting = s.cutting := by
  unfold State.giveBack; simp
@[simp] theorem State.giveBack_cost (s : State) (x n : Nat) : (s.giveBack x n).cost = s.cost := by
  unfold State.giveBack; simp
@[simp] theorem State.giveBack_water (s : State) (x n : Nat) : (s.giveBack x n).water = s.water := by
  unfold State.giveBack; simp
@[simp] theorem State.giveBack_gate (s : State) (x n : Nat) : (s.giveBack x n).gate = s.gate := by
  unfold State.giveBack; simp
@[simp] theorem State.giveBack_line (s : State) (x n : Nat) : (s.giveBack x n).line = s.line := by
  unfold State.giveBack; simp
@[simp] theorem State.giveBack_alarms (s : State) (x n : Nat) : (s.giveBack x n).alarms = s.alarms := by
  unfold State.giveBack; simp
@[simp] theorem State.giveBack_office (s : State) (x n : Nat) : (s.giveBack x n).office = s.office := by
  unfold State.giveBack; simp
@[simp] theorem State.giveBack_handler (s : State) (x n : Nat) : (s.giveBack x n).handler = s.handler := by
  unfold State.giveBack; simp

@[simp] theorem State.unresolve_pending (s : State) (x n : Nat) : (s.unresolve x n).pending = s.pending := by
  unfold State.unresolve; simp
@[simp] theorem State.unresolve_seconds (s : State) (x n : Nat) : (s.unresolve x n).seconds = s.seconds := by
  unfold State.unresolve; simp
@[simp] theorem State.unresolve_freeCount (s : State) (x n : Nat) : (s.unresolve x n).freeCount = s.freeCount := by
  unfold State.unresolve; simp
@[simp] theorem State.unresolve_stock (s : State) (x n : Nat) : (s.unresolve x n).stock = s.stock := by
  unfold State.unresolve; simp
@[simp] theorem State.unresolve_cutting (s : State) (x n : Nat) : (s.unresolve x n).cutting = s.cutting := by
  unfold State.unresolve; simp
@[simp] theorem State.unresolve_cost (s : State) (x n : Nat) : (s.unresolve x n).cost = s.cost := by
  unfold State.unresolve; simp
@[simp] theorem State.unresolve_water (s : State) (x n : Nat) : (s.unresolve x n).water = s.water := by
  unfold State.unresolve; simp
@[simp] theorem State.unresolve_gate (s : State) (x n : Nat) : (s.unresolve x n).gate = s.gate := by
  unfold State.unresolve; simp
@[simp] theorem State.unresolve_line (s : State) (x n : Nat) : (s.unresolve x n).line = s.line := by
  unfold State.unresolve; simp
@[simp] theorem State.unresolve_alarms (s : State) (x n : Nat) : (s.unresolve x n).alarms = s.alarms := by
  unfold State.unresolve; simp
@[simp] theorem State.unresolve_office (s : State) (x n : Nat) : (s.unresolve x n).office = s.office := by
  unfold State.unresolve; simp
@[simp] theorem State.unresolve_handler (s : State) (x n : Nat) : (s.unresolve x n).handler = s.handler := by
  unfold State.unresolve; simp

@[simp] theorem State.withdraw_pending (s : State) (n id : Nat) : (s.withdraw n id).pending = s.pending := by
  rfl
@[simp] theorem State.withdraw_seconds (s : State) (n id : Nat) : (s.withdraw n id).seconds = s.seconds := by
  rfl
@[simp] theorem State.withdraw_freeCount (s : State) (n id : Nat) : (s.withdraw n id).freeCount = s.freeCount := by
  rfl
@[simp] theorem State.withdraw_stock (s : State) (n id : Nat) : (s.withdraw n id).stock = s.stock := by
  rfl
@[simp] theorem State.withdraw_plans (s : State) (n id : Nat) : (s.withdraw n id).plans = s.plans := by
  rfl
@[simp] theorem State.withdraw_cutting (s : State) (n id : Nat) : (s.withdraw n id).cutting = s.cutting := by
  rfl
@[simp] theorem State.withdraw_cost (s : State) (n id : Nat) : (s.withdraw n id).cost = s.cost := by
  rfl
@[simp] theorem State.withdraw_water (s : State) (n id : Nat) : (s.withdraw n id).water = s.water := by
  rfl
@[simp] theorem State.withdraw_gate (s : State) (n id : Nat) : (s.withdraw n id).gate = s.gate := by
  rfl
@[simp] theorem State.withdraw_alarms (s : State) (n id : Nat) : (s.withdraw n id).alarms = s.alarms := by
  rfl
@[simp] theorem State.withdraw_office (s : State) (n id : Nat) : (s.withdraw n id).office = s.office := by
  rfl
@[simp] theorem State.withdraw_handler (s : State) (n id : Nat) : (s.withdraw n id).handler = s.handler := by
  rfl

@[simp] theorem State.enqueue_pending (s : State) (c : Command) : ((s.enqueue c).1).pending = s.pending := by
  unfold State.enqueue; (repeat' split) <;> simp
@[simp] theorem State.enqueue_seconds (s : State) (c : Command) : ((s.enqueue c).1).seconds = s.seconds := by
  unfold State.enqueue; (repeat' split) <;> simp
@[simp] theorem State.enqueue_freeCount (s : State) (c : Command) : ((s.enqueue c).1).freeCount = s.freeCount := by
  unfold State.enqueue; (repeat' split) <;> simp
@[simp] theorem State.enqueue_stock (s : State) (c : Command) : ((s.enqueue c).1).stock = s.stock := by
  unfold State.enqueue; (repeat' split) <;> simp
@[simp] theorem State.enqueue_plans (s : State) (c : Command) : ((s.enqueue c).1).plans = s.plans := by
  unfold State.enqueue; (repeat' split) <;> simp
@[simp] theorem State.enqueue_cutting (s : State) (c : Command) : ((s.enqueue c).1).cutting = s.cutting := by
  unfold State.enqueue; (repeat' split) <;> simp
@[simp] theorem State.enqueue_cost (s : State) (c : Command) : ((s.enqueue c).1).cost = s.cost := by
  unfold State.enqueue; (repeat' split) <;> simp
@[simp] theorem State.enqueue_water (s : State) (c : Command) : ((s.enqueue c).1).water = s.water := by
  unfold State.enqueue; (repeat' split) <;> simp
@[simp] theorem State.enqueue_gate (s : State) (c : Command) : ((s.enqueue c).1).gate = s.gate := by
  unfold State.enqueue; (repeat' split) <;> simp
@[simp] theorem State.enqueue_alarms (s : State) (c : Command) : ((s.enqueue c).1).alarms = s.alarms := by
  unfold State.enqueue; (repeat' split) <;> simp
@[simp] theorem State.enqueue_office (s : State) (c : Command) : ((s.enqueue c).1).office = s.office := by
  unfold State.enqueue; (repeat' split) <;> simp
@[simp] theorem State.enqueue_handler (s : State) (c : Command) : ((s.enqueue c).1).handler = s.handler := by
  unfold State.enqueue; (repeat' split) <;> simp

@[simp] theorem State.enqueueAbort_pending (s : State) (n : Nat) : (s.enqueueAbort n).pending = s.pending := by
  unfold State.enqueueAbort; (repeat' split) <;> simp
@[simp] theorem State.enqueueAbort_seconds (s : State) (n : Nat) : (s.enqueueAbort n).seconds = s.seconds := by
  unfold State.enqueueAbort; (repeat' split) <;> simp
@[simp] theorem State.enqueueAbort_freeCount (s : State) (n : Nat) : (s.enqueueAbort n).freeCount = s.freeCount := by
  unfold State.enqueueAbort; (repeat' split) <;> simp
@[simp] theorem State.enqueueAbort_stock (s : State) (n : Nat) : (s.enqueueAbort n).stock = s.stock := by
  unfold State.enqueueAbort; (repeat' split) <;> simp
@[simp] theorem State.enqueueAbort_plans (s : State) (n : Nat) : (s.enqueueAbort n).plans = s.plans := by
  unfold State.enqueueAbort; (repeat' split) <;> simp
@[simp] theorem State.enqueueAbort_cutting (s : State) (n : Nat) : (s.enqueueAbort n).cutting = s.cutting := by
  unfold State.enqueueAbort; (repeat' split) <;> simp
@[simp] theorem State.enqueueAbort_cost (s : State) (n : Nat) : (s.enqueueAbort n).cost = s.cost := by
  unfold State.enqueueAbort; (repeat' split) <;> simp
@[simp] theorem State.enqueueAbort_water (s : State) (n : Nat) : (s.enqueueAbort n).water = s.water := by
  unfold State.enqueueAbort; (repeat' split) <;> simp
@[simp] theorem State.enqueueAbort_gate (s : State) (n : Nat) : (s.enqueueAbort n).gate = s.gate := by
  unfold State.enqueueAbort; (repeat' split) <;> simp
@[simp] theorem State.enqueueAbort_alarms (s : State) (n : Nat) : (s.enqueueAbort n).alarms = s.alarms := by
  unfold State.enqueueAbort; (repeat' split) <;> simp
@[simp] theorem State.enqueueAbort_office (s : State) (n : Nat) : (s.enqueueAbort n).office = s.office := by
  unfold State.enqueueAbort; (repeat' split) <;> simp
@[simp] theorem State.enqueueAbort_handler (s : State) (n : Nat) : (s.enqueueAbort n).handler = s.handler := by
  unfold State.enqueueAbort; (repeat' split) <;> simp

@[simp] theorem State.changeCutter_pending (s : State) (n : Nat) (f : Cutter → Cutter) : (s.changeCutter n f).pending = s.pending := by
  unfold State.changeCutter; (repeat' split) <;> simp
@[simp] theorem State.changeCutter_seconds (s : State) (n : Nat) (f : Cutter → Cutter) : (s.changeCutter n f).seconds = s.seconds := by
  unfold State.changeCutter; (repeat' split) <;> simp
@[simp] theorem State.changeCutter_freeCount (s : State) (n : Nat) (f : Cutter → Cutter) : (s.changeCutter n f).freeCount = s.freeCount := by
  unfold State.changeCutter; (repeat' split) <;> simp
@[simp] theorem State.changeCutter_stock (s : State) (n : Nat) (f : Cutter → Cutter) : (s.changeCutter n f).stock = s.stock := by
  unfold State.changeCutter; (repeat' split) <;> simp
@[simp] theorem State.changeCutter_plans (s : State) (n : Nat) (f : Cutter → Cutter) : (s.changeCutter n f).plans = s.plans := by
  unfold State.changeCutter; (repeat' split) <;> simp
@[simp] theorem State.changeCutter_cost (s : State) (n : Nat) (f : Cutter → Cutter) : (s.changeCutter n f).cost = s.cost := by
  unfold State.changeCutter; (repeat' split) <;> simp
@[simp] theorem State.changeCutter_water (s : State) (n : Nat) (f : Cutter → Cutter) : (s.changeCutter n f).water = s.water := by
  unfold State.changeCutter; (repeat' split) <;> simp
@[simp] theorem State.changeCutter_gate (s : State) (n : Nat) (f : Cutter → Cutter) : (s.changeCutter n f).gate = s.gate := by
  unfold State.changeCutter; (repeat' split) <;> simp
@[simp] theorem State.changeCutter_line (s : State) (n : Nat) (f : Cutter → Cutter) : (s.changeCutter n f).line = s.line := by
  unfold State.changeCutter; (repeat' split) <;> simp
@[simp] theorem State.changeCutter_alarms (s : State) (n : Nat) (f : Cutter → Cutter) : (s.changeCutter n f).alarms = s.alarms := by
  unfold State.changeCutter; (repeat' split) <;> simp
@[simp] theorem State.changeCutter_office (s : State) (n : Nat) (f : Cutter → Cutter) : (s.changeCutter n f).office = s.office := by
  unfold State.changeCutter; (repeat' split) <;> simp
@[simp] theorem State.changeCutter_handler (s : State) (n : Nat) (f : Cutter → Cutter) : (s.changeCutter n f).handler = s.handler := by
  unfold State.changeCutter; (repeat' split) <;> simp

@[simp] theorem State.faultCutter_pending (s : State) (n : Nat) : (s.faultCutter n).pending = s.pending := by
  unfold State.faultCutter; simp
@[simp] theorem State.faultCutter_seconds (s : State) (n : Nat) : (s.faultCutter n).seconds = s.seconds := by
  unfold State.faultCutter; simp
@[simp] theorem State.faultCutter_freeCount (s : State) (n : Nat) : (s.faultCutter n).freeCount = s.freeCount := by
  unfold State.faultCutter; simp
@[simp] theorem State.faultCutter_stock (s : State) (n : Nat) : (s.faultCutter n).stock = s.stock := by
  unfold State.faultCutter; simp
@[simp] theorem State.faultCutter_plans (s : State) (n : Nat) : (s.faultCutter n).plans = s.plans := by
  unfold State.faultCutter; simp
@[simp] theorem State.faultCutter_cost (s : State) (n : Nat) : (s.faultCutter n).cost = s.cost := by
  unfold State.faultCutter; simp
@[simp] theorem State.faultCutter_water (s : State) (n : Nat) : (s.faultCutter n).water = s.water := by
  unfold State.faultCutter; simp
@[simp] theorem State.faultCutter_gate (s : State) (n : Nat) : (s.faultCutter n).gate = s.gate := by
  unfold State.faultCutter; simp
@[simp] theorem State.faultCutter_line (s : State) (n : Nat) : (s.faultCutter n).line = s.line := by
  unfold State.faultCutter; simp
@[simp] theorem State.faultCutter_alarms (s : State) (n : Nat) : (s.faultCutter n).alarms = s.alarms := by
  unfold State.faultCutter; simp
@[simp] theorem State.faultCutter_office (s : State) (n : Nat) : (s.faultCutter n).office = s.office := by
  unfold State.faultCutter; simp
@[simp] theorem State.faultCutter_handler (s : State) (n : Nat) : (s.faultCutter n).handler = s.handler := by
  unfold State.faultCutter; simp

@[simp] theorem State.mapRecords_pending (s : State) (n : Nat) (f : CutRecord → CutRecord) : (s.mapRecords n f).pending = s.pending := by
  rfl
@[simp] theorem State.mapRecords_seconds (s : State) (n : Nat) (f : CutRecord → CutRecord) : (s.mapRecords n f).seconds = s.seconds := by
  rfl
@[simp] theorem State.mapRecords_freeCount (s : State) (n : Nat) (f : CutRecord → CutRecord) : (s.mapRecords n f).freeCount = s.freeCount := by
  rfl
@[simp] theorem State.mapRecords_stock (s : State) (n : Nat) (f : CutRecord → CutRecord) : (s.mapRecords n f).stock = s.stock := by
  rfl
@[simp] theorem State.mapRecords_plans (s : State) (n : Nat) (f : CutRecord → CutRecord) : (s.mapRecords n f).plans = s.plans := by
  rfl
@[simp] theorem State.mapRecords_cost (s : State) (n : Nat) (f : CutRecord → CutRecord) : (s.mapRecords n f).cost = s.cost := by
  rfl
@[simp] theorem State.mapRecords_water (s : State) (n : Nat) (f : CutRecord → CutRecord) : (s.mapRecords n f).water = s.water := by
  rfl
@[simp] theorem State.mapRecords_gate (s : State) (n : Nat) (f : CutRecord → CutRecord) : (s.mapRecords n f).gate = s.gate := by
  rfl
@[simp] theorem State.mapRecords_line (s : State) (n : Nat) (f : CutRecord → CutRecord) : (s.mapRecords n f).line = s.line := by
  rfl
@[simp] theorem State.mapRecords_alarms (s : State) (n : Nat) (f : CutRecord → CutRecord) : (s.mapRecords n f).alarms = s.alarms := by
  rfl
@[simp] theorem State.mapRecords_office (s : State) (n : Nat) (f : CutRecord → CutRecord) : (s.mapRecords n f).office = s.office := by
  rfl
@[simp] theorem State.mapRecords_handler (s : State) (n : Nat) (f : CutRecord → CutRecord) : (s.mapRecords n f).handler = s.handler := by
  rfl

@[simp] theorem State.startAcked_pending (s : State) (n id : Nat) : (s.startAcked n id).pending = s.pending := by
  unfold State.startAcked; dsimp only; (repeat' split) <;> simp
@[simp] theorem State.startAcked_seconds (s : State) (n id : Nat) : (s.startAcked n id).seconds = s.seconds := by
  unfold State.startAcked; dsimp only; (repeat' split) <;> simp
@[simp] theorem State.startAcked_freeCount (s : State) (n id : Nat) : (s.startAcked n id).freeCount = s.freeCount := by
  unfold State.startAcked; dsimp only; (repeat' split) <;> simp
@[simp] theorem State.startAcked_stock (s : State) (n id : Nat) : (s.startAcked n id).stock = s.stock := by
  unfold State.startAcked; dsimp only; (repeat' split) <;> simp
@[simp] theorem State.startAcked_plans (s : State) (n id : Nat) : (s.startAcked n id).plans = s.plans := by
  unfold State.startAcked; dsimp only; (repeat' split) <;> simp
@[simp] theorem State.startAcked_cost (s : State) (n id : Nat) : (s.startAcked n id).cost = s.cost := by
  unfold State.startAcked; dsimp only; (repeat' split) <;> simp
@[simp] theorem State.startAcked_water (s : State) (n id : Nat) : (s.startAcked n id).water = s.water := by
  unfold State.startAcked; dsimp only; (repeat' split) <;> simp
@[simp] theorem State.startAcked_gate (s : State) (n id : Nat) : (s.startAcked n id).gate = s.gate := by
  unfold State.startAcked; dsimp only; (repeat' split) <;> simp
@[simp] theorem State.startAcked_line (s : State) (n id : Nat) : (s.startAcked n id).line = s.line := by
  unfold State.startAcked; dsimp only; (repeat' split) <;> simp
@[simp] theorem State.startAcked_alarms (s : State) (n id : Nat) : (s.startAcked n id).alarms = s.alarms := by
  unfold State.startAcked; dsimp only; (repeat' split) <;> simp
@[simp] theorem State.startAcked_office (s : State) (n id : Nat) : (s.startAcked n id).office = s.office := by
  unfold State.startAcked; dsimp only; (repeat' split) <;> simp
@[simp] theorem State.startAcked_handler (s : State) (n id : Nat) : (s.startAcked n id).handler = s.handler := by
  unfold State.startAcked; dsimp only; (repeat' split) <;> simp

@[simp] theorem State.holdAcked_pending (s : State) (n : Nat) : (s.holdAcked n).pending = s.pending := by
  unfold State.holdAcked; (repeat' split) <;> simp
@[simp] theorem State.holdAcked_seconds (s : State) (n : Nat) : (s.holdAcked n).seconds = s.seconds := by
  unfold State.holdAcked; (repeat' split) <;> simp
@[simp] theorem State.holdAcked_freeCount (s : State) (n : Nat) : (s.holdAcked n).freeCount = s.freeCount := by
  unfold State.holdAcked; (repeat' split) <;> simp
@[simp] theorem State.holdAcked_stock (s : State) (n : Nat) : (s.holdAcked n).stock = s.stock := by
  unfold State.holdAcked; (repeat' split) <;> simp
@[simp] theorem State.holdAcked_plans (s : State) (n : Nat) : (s.holdAcked n).plans = s.plans := by
  unfold State.holdAcked; (repeat' split) <;> simp
@[simp] theorem State.holdAcked_cost (s : State) (n : Nat) : (s.holdAcked n).cost = s.cost := by
  unfold State.holdAcked; (repeat' split) <;> simp
@[simp] theorem State.holdAcked_water (s : State) (n : Nat) : (s.holdAcked n).water = s.water := by
  unfold State.holdAcked; (repeat' split) <;> simp
@[simp] theorem State.holdAcked_gate (s : State) (n : Nat) : (s.holdAcked n).gate = s.gate := by
  unfold State.holdAcked; (repeat' split) <;> simp
@[simp] theorem State.holdAcked_line (s : State) (n : Nat) : (s.holdAcked n).line = s.line := by
  unfold State.holdAcked; (repeat' split) <;> simp
@[simp] theorem State.holdAcked_alarms (s : State) (n : Nat) : (s.holdAcked n).alarms = s.alarms := by
  unfold State.holdAcked; (repeat' split) <;> simp
@[simp] theorem State.holdAcked_office (s : State) (n : Nat) : (s.holdAcked n).office = s.office := by
  unfold State.holdAcked; (repeat' split) <;> simp
@[simp] theorem State.holdAcked_handler (s : State) (n : Nat) : (s.holdAcked n).handler = s.handler := by
  unfold State.holdAcked; (repeat' split) <;> simp

@[simp] theorem State.resumeAcked_pending (s : State) (n : Nat) : (s.resumeAcked n).pending = s.pending := by
  unfold State.resumeAcked; (repeat' split) <;> simp
@[simp] theorem State.resumeAcked_seconds (s : State) (n : Nat) : (s.resumeAcked n).seconds = s.seconds := by
  unfold State.resumeAcked; (repeat' split) <;> simp
@[simp] theorem State.resumeAcked_freeCount (s : State) (n : Nat) : (s.resumeAcked n).freeCount = s.freeCount := by
  unfold State.resumeAcked; (repeat' split) <;> simp
@[simp] theorem State.resumeAcked_stock (s : State) (n : Nat) : (s.resumeAcked n).stock = s.stock := by
  unfold State.resumeAcked; (repeat' split) <;> simp
@[simp] theorem State.resumeAcked_plans (s : State) (n : Nat) : (s.resumeAcked n).plans = s.plans := by
  unfold State.resumeAcked; (repeat' split) <;> simp
@[simp] theorem State.resumeAcked_cost (s : State) (n : Nat) : (s.resumeAcked n).cost = s.cost := by
  unfold State.resumeAcked; (repeat' split) <;> simp
@[simp] theorem State.resumeAcked_water (s : State) (n : Nat) : (s.resumeAcked n).water = s.water := by
  unfold State.resumeAcked; (repeat' split) <;> simp
@[simp] theorem State.resumeAcked_gate (s : State) (n : Nat) : (s.resumeAcked n).gate = s.gate := by
  unfold State.resumeAcked; (repeat' split) <;> simp
@[simp] theorem State.resumeAcked_line (s : State) (n : Nat) : (s.resumeAcked n).line = s.line := by
  unfold State.resumeAcked; (repeat' split) <;> simp
@[simp] theorem State.resumeAcked_alarms (s : State) (n : Nat) : (s.resumeAcked n).alarms = s.alarms := by
  unfold State.resumeAcked; (repeat' split) <;> simp
@[simp] theorem State.resumeAcked_office (s : State) (n : Nat) : (s.resumeAcked n).office = s.office := by
  unfold State.resumeAcked; (repeat' split) <;> simp
@[simp] theorem State.resumeAcked_handler (s : State) (n : Nat) : (s.resumeAcked n).handler = s.handler := by
  unfold State.resumeAcked; (repeat' split) <;> simp

@[simp] theorem State.broadcastAcked_pending (s : State) (k : BroadcastKind) (n : Nat) : (s.broadcastAcked k n).pending = s.pending := by
  unfold State.broadcastAcked; (repeat' split) <;> simp
@[simp] theorem State.broadcastAcked_seconds (s : State) (k : BroadcastKind) (n : Nat) : (s.broadcastAcked k n).seconds = s.seconds := by
  unfold State.broadcastAcked; (repeat' split) <;> simp
@[simp] theorem State.broadcastAcked_freeCount (s : State) (k : BroadcastKind) (n : Nat) : (s.broadcastAcked k n).freeCount = s.freeCount := by
  unfold State.broadcastAcked; (repeat' split) <;> simp
@[simp] theorem State.broadcastAcked_stock (s : State) (k : BroadcastKind) (n : Nat) : (s.broadcastAcked k n).stock = s.stock := by
  unfold State.broadcastAcked; (repeat' split) <;> simp
@[simp] theorem State.broadcastAcked_plans (s : State) (k : BroadcastKind) (n : Nat) : (s.broadcastAcked k n).plans = s.plans := by
  unfold State.broadcastAcked; (repeat' split) <;> simp
@[simp] theorem State.broadcastAcked_cost (s : State) (k : BroadcastKind) (n : Nat) : (s.broadcastAcked k n).cost = s.cost := by
  unfold State.broadcastAcked; (repeat' split) <;> simp
@[simp] theorem State.broadcastAcked_water (s : State) (k : BroadcastKind) (n : Nat) : (s.broadcastAcked k n).water = s.water := by
  unfold State.broadcastAcked; (repeat' split) <;> simp
@[simp] theorem State.broadcastAcked_gate (s : State) (k : BroadcastKind) (n : Nat) : (s.broadcastAcked k n).gate = s.gate := by
  unfold State.broadcastAcked; (repeat' split) <;> simp
@[simp] theorem State.broadcastAcked_line (s : State) (k : BroadcastKind) (n : Nat) : (s.broadcastAcked k n).line = s.line := by
  unfold State.broadcastAcked; (repeat' split) <;> simp
@[simp] theorem State.broadcastAcked_alarms (s : State) (k : BroadcastKind) (n : Nat) : (s.broadcastAcked k n).alarms = s.alarms := by
  unfold State.broadcastAcked; (repeat' split) <;> simp
@[simp] theorem State.broadcastAcked_office (s : State) (k : BroadcastKind) (n : Nat) : (s.broadcastAcked k n).office = s.office := by
  unfold State.broadcastAcked; (repeat' split) <;> simp
@[simp] theorem State.broadcastAcked_handler (s : State) (k : BroadcastKind) (n : Nat) : (s.broadcastAcked k n).handler = s.handler := by
  unfold State.broadcastAcked; (repeat' split) <;> simp

@[simp] theorem State.finishRecord_pending (s : State) (r : CutRecord) (u : Option Ending) (p : CutReport) : (s.finishRecord r u p).pending = s.pending := by
  unfold State.finishRecord; dsimp only; (repeat' split) <;> simp
@[simp] theorem State.finishRecord_seconds (s : State) (r : CutRecord) (u : Option Ending) (p : CutReport) : (s.finishRecord r u p).seconds = s.seconds := by
  unfold State.finishRecord; dsimp only; (repeat' split) <;> simp
@[simp] theorem State.finishRecord_freeCount (s : State) (r : CutRecord) (u : Option Ending) (p : CutReport) : (s.finishRecord r u p).freeCount = s.freeCount := by
  unfold State.finishRecord; dsimp only; (repeat' split) <;> simp
@[simp] theorem State.finishRecord_stock (s : State) (r : CutRecord) (u : Option Ending) (p : CutReport) : (s.finishRecord r u p).stock = s.stock := by
  unfold State.finishRecord; dsimp only; (repeat' split) <;> simp
@[simp] theorem State.finishRecord_plans (s : State) (r : CutRecord) (u : Option Ending) (p : CutReport) : (s.finishRecord r u p).plans = s.plans := by
  unfold State.finishRecord; dsimp only; (repeat' split) <;> simp
@[simp] theorem State.finishRecord_cost (s : State) (r : CutRecord) (u : Option Ending) (p : CutReport) : (s.finishRecord r u p).cost = s.cost := by
  unfold State.finishRecord; dsimp only; (repeat' split) <;> simp
@[simp] theorem State.finishRecord_water (s : State) (r : CutRecord) (u : Option Ending) (p : CutReport) : (s.finishRecord r u p).water = s.water := by
  unfold State.finishRecord; dsimp only; (repeat' split) <;> simp
@[simp] theorem State.finishRecord_office (s : State) (r : CutRecord) (u : Option Ending) (p : CutReport) : (s.finishRecord r u p).office = s.office := by
  unfold State.finishRecord; dsimp only; (repeat' split) <;> simp
@[simp] theorem State.finishRecord_handler (s : State) (r : CutRecord) (u : Option Ending) (p : CutReport) : (s.finishRecord r u p).handler = s.handler := by
  unfold State.finishRecord; dsimp only; (repeat' split) <;> simp

@[simp] theorem State.endRecord_pending (s : State) (r : CutRecord) (e : Ending) (u : Bool) : (s.endRecord r e u).pending = s.pending := by
  unfold State.endRecord; dsimp only; split <;> simp
@[simp] theorem State.endRecord_seconds (s : State) (r : CutRecord) (e : Ending) (u : Bool) : (s.endRecord r e u).seconds = s.seconds := by
  unfold State.endRecord; dsimp only; split <;> simp
@[simp] theorem State.endRecord_freeCount (s : State) (r : CutRecord) (e : Ending) (u : Bool) : (s.endRecord r e u).freeCount = s.freeCount := by
  unfold State.endRecord; dsimp only; split <;> simp
@[simp] theorem State.endRecord_stock (s : State) (r : CutRecord) (e : Ending) (u : Bool) : (s.endRecord r e u).stock = s.stock := by
  unfold State.endRecord; dsimp only; split <;> simp
@[simp] theorem State.endRecord_cost (s : State) (r : CutRecord) (e : Ending) (u : Bool) : (s.endRecord r e u).cost = s.cost := by
  unfold State.endRecord; dsimp only; split <;> simp
@[simp] theorem State.endRecord_water (s : State) (r : CutRecord) (e : Ending) (u : Bool) : (s.endRecord r e u).water = s.water := by
  unfold State.endRecord; dsimp only; split <;> simp
@[simp] theorem State.endRecord_office (s : State) (r : CutRecord) (e : Ending) (u : Bool) : (s.endRecord r e u).office = s.office := by
  unfold State.endRecord; dsimp only; split <;> simp
@[simp] theorem State.endRecord_handler (s : State) (r : CutRecord) (e : Ending) (u : Bool) : (s.endRecord r e u).handler = s.handler := by
  unfold State.endRecord; dsimp only; split <;> simp

@[simp] theorem State.endUncertainly_pending (s : State) (r : CutRecord) (e : Ending) : (s.endUncertainly r e).pending = s.pending := by
  unfold State.endUncertainly; simp
@[simp] theorem State.endUncertainly_seconds (s : State) (r : CutRecord) (e : Ending) : (s.endUncertainly r e).seconds = s.seconds := by
  unfold State.endUncertainly; simp
@[simp] theorem State.endUncertainly_freeCount (s : State) (r : CutRecord) (e : Ending) : (s.endUncertainly r e).freeCount = s.freeCount := by
  unfold State.endUncertainly; simp
@[simp] theorem State.endUncertainly_stock (s : State) (r : CutRecord) (e : Ending) : (s.endUncertainly r e).stock = s.stock := by
  unfold State.endUncertainly; simp
@[simp] theorem State.endUncertainly_cost (s : State) (r : CutRecord) (e : Ending) : (s.endUncertainly r e).cost = s.cost := by
  unfold State.endUncertainly; simp
@[simp] theorem State.endUncertainly_water (s : State) (r : CutRecord) (e : Ending) : (s.endUncertainly r e).water = s.water := by
  unfold State.endUncertainly; simp
@[simp] theorem State.endUncertainly_office (s : State) (r : CutRecord) (e : Ending) : (s.endUncertainly r e).office = s.office := by
  unfold State.endUncertainly; simp
@[simp] theorem State.endUncertainly_handler (s : State) (r : CutRecord) (e : Ending) : (s.endUncertainly r e).handler = s.handler := by
  unfold State.endUncertainly; simp

@[simp] theorem State.endAll_pending (s : State) (l : List Nat) (e : Ending) : (s.endAll l e).pending = s.pending := by
  unfold State.endAll
  induction l generalizing s with
  | nil => rfl
  | cons a l ih => simp only [List.foldl_cons]; rw [ih]; split <;> simp
@[simp] theorem State.endAll_seconds (s : State) (l : List Nat) (e : Ending) : (s.endAll l e).seconds = s.seconds := by
  unfold State.endAll
  induction l generalizing s with
  | nil => rfl
  | cons a l ih => simp only [List.foldl_cons]; rw [ih]; split <;> simp
@[simp] theorem State.endAll_freeCount (s : State) (l : List Nat) (e : Ending) : (s.endAll l e).freeCount = s.freeCount := by
  unfold State.endAll
  induction l generalizing s with
  | nil => rfl
  | cons a l ih => simp only [List.foldl_cons]; rw [ih]; split <;> simp
@[simp] theorem State.endAll_stock (s : State) (l : List Nat) (e : Ending) : (s.endAll l e).stock = s.stock := by
  unfold State.endAll
  induction l generalizing s with
  | nil => rfl
  | cons a l ih => simp only [List.foldl_cons]; rw [ih]; split <;> simp
@[simp] theorem State.endAll_cost (s : State) (l : List Nat) (e : Ending) : (s.endAll l e).cost = s.cost := by
  unfold State.endAll
  induction l generalizing s with
  | nil => rfl
  | cons a l ih => simp only [List.foldl_cons]; rw [ih]; split <;> simp
@[simp] theorem State.endAll_water (s : State) (l : List Nat) (e : Ending) : (s.endAll l e).water = s.water := by
  unfold State.endAll
  induction l generalizing s with
  | nil => rfl
  | cons a l ih => simp only [List.foldl_cons]; rw [ih]; split <;> simp
@[simp] theorem State.endAll_office (s : State) (l : List Nat) (e : Ending) : (s.endAll l e).office = s.office := by
  unfold State.endAll
  induction l generalizing s with
  | nil => rfl
  | cons a l ih => simp only [List.foldl_cons]; rw [ih]; split <;> simp
@[simp] theorem State.endAll_handler (s : State) (l : List Nat) (e : Ending) : (s.endAll l e).handler = s.handler := by
  unfold State.endAll
  induction l generalizing s with
  | nil => rfl
  | cons a l ih => simp only [List.foldl_cons]; rw [ih]; split <;> simp

@[simp] theorem State.faultSweep_pending (s : State) (n : Nat) : (s.faultSweep n).pending = s.pending := by
  unfold State.faultSweep; simp
@[simp] theorem State.faultSweep_seconds (s : State) (n : Nat) : (s.faultSweep n).seconds = s.seconds := by
  unfold State.faultSweep; simp
@[simp] theorem State.faultSweep_freeCount (s : State) (n : Nat) : (s.faultSweep n).freeCount = s.freeCount := by
  unfold State.faultSweep; simp
@[simp] theorem State.faultSweep_stock (s : State) (n : Nat) : (s.faultSweep n).stock = s.stock := by
  unfold State.faultSweep; simp
@[simp] theorem State.faultSweep_cost (s : State) (n : Nat) : (s.faultSweep n).cost = s.cost := by
  unfold State.faultSweep; simp
@[simp] theorem State.faultSweep_water (s : State) (n : Nat) : (s.faultSweep n).water = s.water := by
  unfold State.faultSweep; simp
@[simp] theorem State.faultSweep_office (s : State) (n : Nat) : (s.faultSweep n).office = s.office := by
  unfold State.faultSweep; simp
@[simp] theorem State.faultSweep_handler (s : State) (n : Nat) : (s.faultSweep n).handler = s.handler := by
  unfold State.faultSweep; simp

@[simp] theorem State.startFailed_pending (s : State) (n id : Nat) : ((s.startFailed n id).1).pending = s.pending := by
  unfold State.startFailed; (repeat' split) <;> simp
@[simp] theorem State.startFailed_seconds (s : State) (n id : Nat) : ((s.startFailed n id).1).seconds = s.seconds := by
  unfold State.startFailed; (repeat' split) <;> simp
@[simp] theorem State.startFailed_freeCount (s : State) (n id : Nat) : ((s.startFailed n id).1).freeCount = s.freeCount := by
  unfold State.startFailed; (repeat' split) <;> simp
@[simp] theorem State.startFailed_stock (s : State) (n id : Nat) : ((s.startFailed n id).1).stock = s.stock := by
  unfold State.startFailed; (repeat' split) <;> simp
@[simp] theorem State.startFailed_cost (s : State) (n id : Nat) : ((s.startFailed n id).1).cost = s.cost := by
  unfold State.startFailed; (repeat' split) <;> simp
@[simp] theorem State.startFailed_water (s : State) (n id : Nat) : ((s.startFailed n id).1).water = s.water := by
  unfold State.startFailed; (repeat' split) <;> simp
@[simp] theorem State.startFailed_office (s : State) (n id : Nat) : ((s.startFailed n id).1).office = s.office := by
  unfold State.startFailed; (repeat' split) <;> simp
@[simp] theorem State.startFailed_handler (s : State) (n id : Nat) : ((s.startFailed n id).1).handler = s.handler := by
  unfold State.startFailed; (repeat' split) <;> simp

@[simp] theorem State.cutterLost_pending (s : State) (n : Nat) : ((s.cutterLost n).1).pending = s.pending := by
  unfold State.cutterLost; (repeat' split) <;> simp
@[simp] theorem State.cutterLost_seconds (s : State) (n : Nat) : ((s.cutterLost n).1).seconds = s.seconds := by
  unfold State.cutterLost; (repeat' split) <;> simp
@[simp] theorem State.cutterLost_freeCount (s : State) (n : Nat) : ((s.cutterLost n).1).freeCount = s.freeCount := by
  unfold State.cutterLost; (repeat' split) <;> simp
@[simp] theorem State.cutterLost_stock (s : State) (n : Nat) : ((s.cutterLost n).1).stock = s.stock := by
  unfold State.cutterLost; (repeat' split) <;> simp
@[simp] theorem State.cutterLost_cost (s : State) (n : Nat) : ((s.cutterLost n).1).cost = s.cost := by
  unfold State.cutterLost; (repeat' split) <;> simp
@[simp] theorem State.cutterLost_water (s : State) (n : Nat) : ((s.cutterLost n).1).water = s.water := by
  unfold State.cutterLost; (repeat' split) <;> simp
@[simp] theorem State.cutterLost_office (s : State) (n : Nat) : ((s.cutterLost n).1).office = s.office := by
  unfold State.cutterLost; (repeat' split) <;> simp
@[simp] theorem State.cutterLost_handler (s : State) (n : Nat) : ((s.cutterLost n).1).handler = s.handler := by
  unfold State.cutterLost; (repeat' split) <;> simp

@[simp] theorem State.timeOut_pending (s : State) (r : CutRecord) : (s.timeOut r).pending = s.pending := by
  unfold State.timeOut; simp
@[simp] theorem State.timeOut_seconds (s : State) (r : CutRecord) : (s.timeOut r).seconds = s.seconds := by
  unfold State.timeOut; simp
@[simp] theorem State.timeOut_freeCount (s : State) (r : CutRecord) : (s.timeOut r).freeCount = s.freeCount := by
  unfold State.timeOut; simp
@[simp] theorem State.timeOut_stock (s : State) (r : CutRecord) : (s.timeOut r).stock = s.stock := by
  unfold State.timeOut; simp
@[simp] theorem State.timeOut_cost (s : State) (r : CutRecord) : (s.timeOut r).cost = s.cost := by
  unfold State.timeOut; simp
@[simp] theorem State.timeOut_water (s : State) (r : CutRecord) : (s.timeOut r).water = s.water := by
  unfold State.timeOut; simp
@[simp] theorem State.timeOut_office (s : State) (r : CutRecord) : (s.timeOut r).office = s.office := by
  unfold State.timeOut; simp
@[simp] theorem State.timeOut_handler (s : State) (r : CutRecord) : (s.timeOut r).handler = s.handler := by
  unfold State.timeOut; simp

@[simp] theorem State.mismatch_pending (s : State) (c : Cutter) : (s.mismatch c).pending = s.pending := by
  unfold State.mismatch; simp
@[simp] theorem State.mismatch_seconds (s : State) (c : Cutter) : (s.mismatch c).seconds = s.seconds := by
  unfold State.mismatch; simp
@[simp] theorem State.mismatch_freeCount (s : State) (c : Cutter) : (s.mismatch c).freeCount = s.freeCount := by
  unfold State.mismatch; simp
@[simp] theorem State.mismatch_stock (s : State) (c : Cutter) : (s.mismatch c).stock = s.stock := by
  unfold State.mismatch; simp
@[simp] theorem State.mismatch_cost (s : State) (c : Cutter) : (s.mismatch c).cost = s.cost := by
  unfold State.mismatch; simp
@[simp] theorem State.mismatch_water (s : State) (c : Cutter) : (s.mismatch c).water = s.water := by
  unfold State.mismatch; simp
@[simp] theorem State.mismatch_office (s : State) (c : Cutter) : (s.mismatch c).office = s.office := by
  unfold State.mismatch; simp
@[simp] theorem State.mismatch_handler (s : State) (c : Cutter) : (s.mismatch c).handler = s.handler := by
  unfold State.mismatch; simp

@[simp] theorem State.endWaiting_pending (s : State) (n : Nat) (e : Ending) : (s.endWaiting n e).pending = s.pending := by
  unfold State.endWaiting
  generalize s.slotsOf n = l
  induction l generalizing s with
  | nil => rfl
  | cons a l ih => simp only [List.foldl_cons]; rw [ih]; (repeat' split) <;> simp
@[simp] theorem State.endWaiting_seconds (s : State) (n : Nat) (e : Ending) : (s.endWaiting n e).seconds = s.seconds := by
  unfold State.endWaiting
  generalize s.slotsOf n = l
  induction l generalizing s with
  | nil => rfl
  | cons a l ih => simp only [List.foldl_cons]; rw [ih]; (repeat' split) <;> simp
@[simp] theorem State.endWaiting_freeCount (s : State) (n : Nat) (e : Ending) : (s.endWaiting n e).freeCount = s.freeCount := by
  unfold State.endWaiting
  generalize s.slotsOf n = l
  induction l generalizing s with
  | nil => rfl
  | cons a l ih => simp only [List.foldl_cons]; rw [ih]; (repeat' split) <;> simp
@[simp] theorem State.endWaiting_stock (s : State) (n : Nat) (e : Ending) : (s.endWaiting n e).stock = s.stock := by
  unfold State.endWaiting
  generalize s.slotsOf n = l
  induction l generalizing s with
  | nil => rfl
  | cons a l ih => simp only [List.foldl_cons]; rw [ih]; (repeat' split) <;> simp
@[simp] theorem State.endWaiting_cost (s : State) (n : Nat) (e : Ending) : (s.endWaiting n e).cost = s.cost := by
  unfold State.endWaiting
  generalize s.slotsOf n = l
  induction l generalizing s with
  | nil => rfl
  | cons a l ih => simp only [List.foldl_cons]; rw [ih]; (repeat' split) <;> simp
@[simp] theorem State.endWaiting_water (s : State) (n : Nat) (e : Ending) : (s.endWaiting n e).water = s.water := by
  unfold State.endWaiting
  generalize s.slotsOf n = l
  induction l generalizing s with
  | nil => rfl
  | cons a l ih => simp only [List.foldl_cons]; rw [ih]; (repeat' split) <;> simp
@[simp] theorem State.endWaiting_office (s : State) (n : Nat) (e : Ending) : (s.endWaiting n e).office = s.office := by
  unfold State.endWaiting
  generalize s.slotsOf n = l
  induction l generalizing s with
  | nil => rfl
  | cons a l ih => simp only [List.foldl_cons]; rw [ih]; (repeat' split) <;> simp
@[simp] theorem State.endWaiting_handler (s : State) (n : Nat) (e : Ending) : (s.endWaiting n e).handler = s.handler := by
  unfold State.endWaiting
  generalize s.slotsOf n = l
  induction l generalizing s with
  | nil => rfl
  | cons a l ih => simp only [List.foldl_cons]; rw [ih]; (repeat' split) <;> simp

/-! ### The gate -/

@[simp] theorem State.forward_pending (s : State) (r : CutRecord) : (s.forward r).pending = s.pending := by
  unfold State.forward; dsimp only
  split <;> rename_i h <;> simp only [State.enqueue] at h <;> split at h <;> simp_all <;> simp [← h]
@[simp] theorem State.forward_seconds (s : State) (r : CutRecord) : (s.forward r).seconds = s.seconds := by
  unfold State.forward; dsimp only
  split <;> rename_i h <;> simp only [State.enqueue] at h <;> split at h <;> simp_all <;> simp [← h]
@[simp] theorem State.forward_freeCount (s : State) (r : CutRecord) : (s.forward r).freeCount = s.freeCount := by
  unfold State.forward; dsimp only
  split <;> rename_i h <;> simp only [State.enqueue] at h <;> split at h <;> simp_all <;> simp [← h]
@[simp] theorem State.forward_stock (s : State) (r : CutRecord) : (s.forward r).stock = s.stock := by
  unfold State.forward; dsimp only
  split <;> rename_i h <;> simp only [State.enqueue] at h <;> split at h <;> simp_all <;> simp [← h]
@[simp] theorem State.forward_cost (s : State) (r : CutRecord) : (s.forward r).cost = s.cost := by
  unfold State.forward; dsimp only
  split <;> rename_i h <;> simp only [State.enqueue] at h <;> split at h <;> simp_all <;> simp [← h]
@[simp] theorem State.forward_water (s : State) (r : CutRecord) : (s.forward r).water = s.water := by
  unfold State.forward; dsimp only
  split <;> rename_i h <;> simp only [State.enqueue] at h <;> split at h <;> simp_all <;> simp [← h]
@[simp] theorem State.forward_office (s : State) (r : CutRecord) : (s.forward r).office = s.office := by
  unfold State.forward; dsimp only
  split <;> rename_i h <;> simp only [State.enqueue] at h <;> split at h <;> simp_all <;> simp [← h]
@[simp] theorem State.forward_handler (s : State) (r : CutRecord) : (s.forward r).handler = s.handler := by
  unfold State.forward; dsimp only
  split <;> rename_i h <;> simp only [State.enqueue] at h <;> split at h <;> simp_all <;> simp [← h]

@[simp] theorem State.walk_pending (s : State) (n : Nat) : (s.walk n).pending = s.pending := by
  induction n generalizing s with
  | zero => rfl
  | succ n ih => unfold State.walk; (repeat' split) <;> simp_all
@[simp] theorem State.walk_seconds (s : State) (n : Nat) : (s.walk n).seconds = s.seconds := by
  induction n generalizing s with
  | zero => rfl
  | succ n ih => unfold State.walk; (repeat' split) <;> simp_all
@[simp] theorem State.walk_freeCount (s : State) (n : Nat) : (s.walk n).freeCount = s.freeCount := by
  induction n generalizing s with
  | zero => rfl
  | succ n ih => unfold State.walk; (repeat' split) <;> simp_all
@[simp] theorem State.walk_stock (s : State) (n : Nat) : (s.walk n).stock = s.stock := by
  induction n generalizing s with
  | zero => rfl
  | succ n ih => unfold State.walk; (repeat' split) <;> simp_all
@[simp] theorem State.walk_cost (s : State) (n : Nat) : (s.walk n).cost = s.cost := by
  induction n generalizing s with
  | zero => rfl
  | succ n ih => unfold State.walk; (repeat' split) <;> simp_all
@[simp] theorem State.walk_water (s : State) (n : Nat) : (s.walk n).water = s.water := by
  induction n generalizing s with
  | zero => rfl
  | succ n ih => unfold State.walk; (repeat' split) <;> simp_all
@[simp] theorem State.walk_office (s : State) (n : Nat) : (s.walk n).office = s.office := by
  induction n generalizing s with
  | zero => rfl
  | succ n ih => unfold State.walk; (repeat' split) <;> simp_all
@[simp] theorem State.walk_handler (s : State) (n : Nat) : (s.walk n).handler = s.handler := by
  induction n generalizing s with
  | zero => rfl
  | succ n ih => unfold State.walk; (repeat' split) <;> simp_all

@[simp] theorem State.reevaluate_pending (s : State) : (s.reevaluate).pending = s.pending := by
  unfold State.reevaluate; simp
@[simp] theorem State.reevaluate_seconds (s : State) : (s.reevaluate).seconds = s.seconds := by
  unfold State.reevaluate; simp
@[simp] theorem State.reevaluate_freeCount (s : State) : (s.reevaluate).freeCount = s.freeCount := by
  unfold State.reevaluate; simp
@[simp] theorem State.reevaluate_stock (s : State) : (s.reevaluate).stock = s.stock := by
  unfold State.reevaluate; simp
@[simp] theorem State.reevaluate_cost (s : State) : (s.reevaluate).cost = s.cost := by
  unfold State.reevaluate; simp
@[simp] theorem State.reevaluate_water (s : State) : (s.reevaluate).water = s.water := by
  unfold State.reevaluate; simp
@[simp] theorem State.reevaluate_office (s : State) : (s.reevaluate).office = s.office := by
  unfold State.reevaluate; simp
@[simp] theorem State.reevaluate_handler (s : State) : (s.reevaluate).handler = s.handler := by
  unfold State.reevaluate; simp

@[simp] theorem State.reevaluateIf_pending (s : State) (b : Bool) : (s.reevaluateIf b).pending = s.pending := by
  unfold State.reevaluateIf; split <;> simp
@[simp] theorem State.reevaluateIf_seconds (s : State) (b : Bool) : (s.reevaluateIf b).seconds = s.seconds := by
  unfold State.reevaluateIf; split <;> simp
@[simp] theorem State.reevaluateIf_freeCount (s : State) (b : Bool) : (s.reevaluateIf b).freeCount = s.freeCount := by
  unfold State.reevaluateIf; split <;> simp
@[simp] theorem State.reevaluateIf_stock (s : State) (b : Bool) : (s.reevaluateIf b).stock = s.stock := by
  unfold State.reevaluateIf; split <;> simp
@[simp] theorem State.reevaluateIf_cost (s : State) (b : Bool) : (s.reevaluateIf b).cost = s.cost := by
  unfold State.reevaluateIf; split <;> simp
@[simp] theorem State.reevaluateIf_water (s : State) (b : Bool) : (s.reevaluateIf b).water = s.water := by
  unfold State.reevaluateIf; split <;> simp
@[simp] theorem State.reevaluateIf_office (s : State) (b : Bool) : (s.reevaluateIf b).office = s.office := by
  unfold State.reevaluateIf; split <;> simp
@[simp] theorem State.reevaluateIf_handler (s : State) (b : Bool) : (s.reevaluateIf b).handler = s.handler := by
  unfold State.reevaluateIf; split <;> simp

@[simp] theorem State.recomputeHoldAndWalk_pending (s : State) : (s.recomputeHoldAndWalk).pending = s.pending := by
  unfold State.recomputeHoldAndWalk; dsimp only; split <;> simp
@[simp] theorem State.recomputeHoldAndWalk_seconds (s : State) : (s.recomputeHoldAndWalk).seconds = s.seconds := by
  unfold State.recomputeHoldAndWalk; dsimp only; split <;> simp
@[simp] theorem State.recomputeHoldAndWalk_freeCount (s : State) : (s.recomputeHoldAndWalk).freeCount = s.freeCount := by
  unfold State.recomputeHoldAndWalk; dsimp only; split <;> simp
@[simp] theorem State.recomputeHoldAndWalk_stock (s : State) : (s.recomputeHoldAndWalk).stock = s.stock := by
  unfold State.recomputeHoldAndWalk; dsimp only; split <;> simp
@[simp] theorem State.recomputeHoldAndWalk_cost (s : State) : (s.recomputeHoldAndWalk).cost = s.cost := by
  unfold State.recomputeHoldAndWalk; dsimp only; split <;> simp
@[simp] theorem State.recomputeHoldAndWalk_water (s : State) : (s.recomputeHoldAndWalk).water = s.water := by
  unfold State.recomputeHoldAndWalk; dsimp only; split <;> simp
@[simp] theorem State.recomputeHoldAndWalk_office (s : State) : (s.recomputeHoldAndWalk).office = s.office := by
  unfold State.recomputeHoldAndWalk; dsimp only; split <;> simp
@[simp] theorem State.recomputeHoldAndWalk_handler (s : State) : (s.recomputeHoldAndWalk).handler = s.handler := by
  unfold State.recomputeHoldAndWalk; dsimp only; split <;> simp

@[simp] theorem State.waterItem_pending (s : State) : (s.waterItem).pending = s.pending := by
  unfold State.waterItem State.evaluateLatch State.setLatch State.clearLatch; dsimp only; (repeat' split) <;> simp
@[simp] theorem State.waterItem_seconds (s : State) : (s.waterItem).seconds = s.seconds := by
  unfold State.waterItem State.evaluateLatch State.setLatch State.clearLatch; dsimp only; (repeat' split) <;> simp
@[simp] theorem State.waterItem_freeCount (s : State) : (s.waterItem).freeCount = s.freeCount := by
  unfold State.waterItem State.evaluateLatch State.setLatch State.clearLatch; dsimp only; (repeat' split) <;> simp
@[simp] theorem State.waterItem_stock (s : State) : (s.waterItem).stock = s.stock := by
  unfold State.waterItem State.evaluateLatch State.setLatch State.clearLatch; dsimp only; (repeat' split) <;> simp
@[simp] theorem State.waterItem_cost (s : State) : (s.waterItem).cost = s.cost := by
  unfold State.waterItem State.evaluateLatch State.setLatch State.clearLatch; dsimp only; (repeat' split) <;> simp
@[simp] theorem State.waterItem_water (s : State) : (s.waterItem).water = s.water := by
  unfold State.waterItem State.evaluateLatch State.setLatch State.clearLatch; dsimp only; (repeat' split) <;> simp
@[simp] theorem State.waterItem_office (s : State) : (s.waterItem).office = s.office := by
  unfold State.waterItem State.evaluateLatch State.setLatch State.clearLatch; dsimp only; (repeat' split) <;> simp
@[simp] theorem State.waterItem_handler (s : State) : (s.waterItem).handler = s.handler := by
  unfold State.waterItem State.evaluateLatch State.setLatch State.clearLatch; dsimp only; (repeat' split) <;> simp

end Sys2Proof.Machine
end

