-- ==== Sys2Proof/Laws/Effects.lean ====
section
/-! SUPPORT. What each shared operation does: a report queued, line hold recomputed, an alarm raised, a charge added, a
record ended, a cutter faulted, a broadcast ordered. -/

namespace Sys2Proof.Machine

/-! ### The report queue (R178) -/

/-- A report joins the queue while there is room, and leaves a gap noted otherwise. -/
theorem queueReport_alarms (s : State) (b : ReportBody) :
    (s.queueReport b).alarms =
      if s.alarms.reports.length < Config.maxReports then
        { s.alarms with
          reports := s.alarms.reports ++ [{ body := b, time := s.seconds, gap := s.alarms.gapNoted }]
          gapNoted := false }
      else { s.alarms with gapNoted := true } := by
  unfold State.queueReport; split <;> rfl

@[simp] theorem queueReport_actions (s : State) (b : ReportBody) :
    (s.queueReport b).alarms.actions = s.alarms.actions := by
  rw [queueReport_alarms]; split <;> rfl
@[simp] theorem queueReport_entries (s : State) (b : ReportBody) :
    (s.queueReport b).alarms.entries = s.alarms.entries := by
  rw [queueReport_alarms]; split <;> rfl
/-- The queue never holds more than 64 reports (R176). -/
theorem queueReport_length (s : State) (b : ReportBody) (h : s.alarms.reports.length ≤ 64) :
    (s.queueReport b).alarms.reports.length ≤ 64 := by
  rw [queueReport_alarms]
  split
  · rename_i hl; simp [Config.maxReports] at hl ⊢; omega
  · exact h

/-! ### Broadcasts and line hold (R117, R141) -/

/-- An order touches the broadcast in progress and the pending order alone. -/
theorem orderBroadcast_line (s : State) (k : BroadcastKind) :
    ∃ b p, (s.orderBroadcast k).line = { s.line with broadcast := b, pendingBroadcast := p } := by
  unfold State.orderBroadcast
  split
  · exact ⟨_, s.line.pendingBroadcast, rfl⟩
  · exact ⟨s.line.broadcast, _, rfl⟩

/-- Line hold recomputed is ON exactly while a source is active (R117); nothing else of the gate changes. -/
@[simp] theorem recomputeHold_gate (s : State) :
    s.recomputeHold.gate = { s.gate with lineHold := s.gate.wantsHold } := by
  unfold State.recomputeHold
  dsimp only
  split
  · rename_i h; rw [h]
  · simp

@[simp] theorem recomputeHold_actions (s : State) : s.recomputeHold.alarms.actions = s.alarms.actions := by
  unfold State.recomputeHold; dsimp only; split <;> simp
@[simp] theorem recomputeHold_entries (s : State) : s.recomputeHold.alarms.entries = s.alarms.entries := by
  unfold State.recomputeHold; dsimp only; split <;> simp
theorem recomputeHold_line (s : State) :
    ∃ b p, s.recomputeHold.line = { s.line with broadcast := b, pendingBroadcast := p } := by
  unfold State.recomputeHold
  dsimp only
  split
  · exact ⟨s.line.broadcast, s.line.pendingBroadcast, rfl⟩
  · simpa using orderBroadcast_line (s.setGate { s.gate with lineHold := s.gate.wantsHold }) _
/-- With line hold as its sources give it, recomputing it changes nothing. -/
theorem recomputeHold_same {s : State} (h : s.gate.wantsHold = s.gate.lineHold) : s.recomputeHold = s := by
  simp [State.recomputeHold, h]

/-! ### Raising an alarm (R170, R171) -/

@[simp] theorem raise_entries (s : State) (k : AlarmKind) (n : Nat) :
    (s.raise k n).alarms.entries = (s.alarms.raised k n s.seconds).1 := by
  unfold State.raise; dsimp only; split <;> simp [State.tellAlarmSource]
@[simp] theorem raise_actions (s : State) (k : AlarmKind) (n : Nat) :
    (s.raise k n).alarms.actions = s.alarms.actions := by
  unfold State.raise; dsimp only; split <;> simp [State.tellAlarmSource]
/-- A raise touches line hold and its alarm source alone at the gate. -/
theorem raise_gate (s : State) (k : AlarmKind) (n : Nat) :
    ∃ a l, (s.raise k n).gate = { s.gate with alarmSource := a, lineHold := l } := by
  unfold State.raise
  dsimp only
  split
  · refine ⟨true, (s.gate.latch || true) || s.gate.officeHold, ?_⟩
    simp only [State.tellAlarmSource, recomputeHold_gate, State.setGate_gate, State.queueReport_gate, State.setAlarms_gate]
    rfl
  · exact ⟨s.gate.alarmSource, s.gate.lineHold, by simp⟩
/-- A raise touches the broadcast orders alone at the line port. -/
theorem raise_line (s : State) (k : AlarmKind) (n : Nat) :
    ∃ b p, (s.raise k n).line = { s.line with broadcast := b, pendingBroadcast := p } := by
  unfold State.raise
  dsimp only
  split
  · unfold State.tellAlarmSource
    obtain ⟨b, p, h⟩ := recomputeHold_line ((((s.setAlarms { s.alarms with entries := (s.alarms.raised k n s.seconds).1 }).queueReport
      (.alarm (s.alarms.raised k n s.seconds).2.1))).setGate
        { (((s.setAlarms { s.alarms with entries := (s.alarms.raised k n s.seconds).1 }).queueReport
          (.alarm (s.alarms.raised k n s.seconds).2.1))).gate with alarmSource := true })
    exact ⟨b, p, by rw [h]; simp⟩
  · exact ⟨s.line.broadcast, s.line.pendingBroadcast, by simp⟩
@[simp] theorem raise_waiting (s : State) (k : AlarmKind) (n : Nat) : (s.raise k n).gate.waiting = s.gate.waiting := by
  obtain ⟨a, l, h⟩ := raise_gate s k n; rw [h]
@[simp] theorem raise_latch (s : State) (k : AlarmKind) (n : Nat) : (s.raise k n).gate.latch = s.gate.latch := by
  obtain ⟨a, l, h⟩ := raise_gate s k n; rw [h]
@[simp] theorem raise_officeHold (s : State) (k : AlarmKind) (n : Nat) :
    (s.raise k n).gate.officeHold = s.gate.officeHold := by
  obtain ⟨a, l, h⟩ := raise_gate s k n; rw [h]
@[simp] theorem raise_holder (s : State) (k : AlarmKind) (n : Nat) : (s.raise k n).line.holder = s.line.holder := by
  obtain ⟨b, p, h⟩ := raise_line s k n; rw [h]
@[simp] theorem raise_roster (s : State) (k : AlarmKind) (n : Nat) : (s.raise k n).line.roster = s.line.roster := by
  obtain ⟨b, p, h⟩ := raise_line s k n; rw [h]
@[simp] theorem raise_queue (s : State) (k : AlarmKind) (n : Nat) : (s.raise k n).line.queue = s.line.queue := by
  obtain ⟨b, p, h⟩ := raise_line s k n; rw [h]
@[simp] theorem raise_reports (s : State) (k : AlarmKind) (n : Nat) : (s.raise k n).line.reports = s.line.reports := by
  obtain ⟨b, p, h⟩ := raise_line s k n; rw [h]
@[simp] theorem raise_receiving (s : State) (k : AlarmKind) (n : Nat) :
    (s.raise k n).line.receiving = s.line.receiving := by
  obtain ⟨b, p, h⟩ := raise_line s k n; rw [h]
@[simp] theorem raise_out (s : State) (k : AlarmKind) (n : Nat) : (s.raise k n).line.out = s.line.out := by
  obtain ⟨b, p, h⟩ := raise_line s k n; rw [h]

/-! ### Charges (R90) -/

/-- A charge event changes one job. -/
@[simp] theorem addCharge_job (s : State) (n : Nat) (c : Charge) (m : Nat) :
    (s.addCharge n c).job m = if n = m then (s.job n).charged c else s.job m := by
  have h : (s.addCharge n c).cost = (s.putJob ((s.job n).charged c)).cost := by
    unfold State.addCharge; dsimp only; (repeat' split) <;> simp
  rw [job_of_same h, job_putJob]
  simp [Job.charged, Job.added]
@[simp] theorem chargeStone_job (s : State) (n a b m : Nat) :
    (s.chargeStone n a b).job m = if n = m then (s.job n).charged (.stone (materialCharge a b)) else s.job m :=
  addCharge_job s n _ m

/-! ### Cutters and records (R57) -/

@[simp] theorem changeCutter_cutter (s : State) (n k : Nat) (f : Cutter → Cutter)
    (hf : ∀ c, (f c).number = c.number) :
    (s.changeCutter n f).cutter? k = if n = k then (s.cutter? k).map f else s.cutter? k := by
  unfold State.changeCutter
  cases h : s.cutter? n with
  | none =>
    dsimp only
    split
    · rename_i e; rw [← e, h]; rfl
    · rfl
  | some c =>
    have hk := cutter_key h
    simp only [cutter_putCutter, hf, hk]
    split
    · rename_i e; rw [← e, h]; rfl
    · rfl
@[simp] theorem faultCutter_cutter (s : State) (n k : Nat) :
    (s.faultCutter n).cutter? k = if n = k then (s.cutter? k).map fun c => { c with state := .faulted } else s.cutter? k :=
  changeCutter_cutter s n k (fun c => { c with state := .faulted }) fun _ => rfl
@[simp] theorem changeCutter_records (s : State) (n : Nat) (f : Cutter → Cutter) :
    (s.changeCutter n f).cutting.records = s.cutting.records := by
  unfold State.changeCutter; split <;> rfl
@[simp] theorem faultCutter_records (s : State) (n : Nat) : (s.faultCutter n).cutting.records = s.cutting.records :=
  changeCutter_records s n _

/-- A record that ends leaves the pool, and no other record does (R57). -/
@[simp] theorem finishRecord_records (s : State) (r : CutRecord) (u : Option Ending) (p : CutReport) :
    (s.finishRecord r u p).cutting.records = remove CutRecord.id r.id s.cutting.records := by
  unfold State.finishRecord
  dsimp only
  (repeat' split) <;> simp [State.putCutter]
@[simp] theorem endRecord_records (s : State) (r : CutRecord) (e : Ending) (u : Bool) :
    (s.endRecord r e u).cutting.records = remove CutRecord.id r.id s.cutting.records := by
  unfold State.endRecord; dsimp only; split <;> simp
@[simp] theorem endRecord_record (s : State) (r : CutRecord) (e : Ending) (u : Bool) (k : Nat) :
    (s.endRecord r e u).record? k = if r.id = k then none else s.record? k := by
  simp only [State.record?, endRecord_records, lookup_remove]

/-- What a record's end leaves of a cutter (R57): its own cutter loses the record from its slots, may gain an uncertain
echo, and settles; the others are as they were. -/
theorem finishRecord_cutter (s : State) (r : CutRecord) (u : Option Ending) (p : CutReport) (k : Nat) :
    (s.finishRecord r u p).cutter? k =
      if r.onCutter = k then
        (s.cutter? k).map fun c => Cutter.settled { c with
          uncertain := match u with
            | none => c.uncertain
            | some e => joinUncertain c.uncertain { echo := r.echo, job := r.job, ending := e }
          slots := c.slots.filter (· != r.id) }
      else s.cutter? k := by
  have settledKey : ∀ c : Cutter, c.settled.number = c.number := by
    intro c; unfold Cutter.settled; split <;> rfl
  unfold State.finishRecord
  dsimp only
  cases hc : s.cutter? r.onCutter with
  | none =>
    simp only [State.cutter?] at hc ⊢
    simp only [State.queueReport_cutting, State.withdraw_cutting, State.setCutting_cutting, State.setGate_cutting, hc]
    split
    · rename_i e; rw [← e, hc]; rfl
    · rfl
  | some c =>
    have hk := cutter_key hc
    simp only [State.cutter?] at hc ⊢
    simp only [State.queueReport_cutting, State.withdraw_cutting, State.setCutting_cutting, State.setGate_cutting,
      State.putCutter, lookup_put, hk, if_true, settledKey]
    split
    · rename_i e; rw [← e, hc, ← hk]; rfl
    · rfl

/-- A FAULTED cutter stays FAULTED while records end (R57 step 6). -/
theorem finishRecord_faulted {s : State} {r : CutRecord} {u : Option Ending} {p : CutReport} {k : Nat}
    (h : (s.cutter? k).map Cutter.state = some .faulted) :
    ((s.finishRecord r u p).cutter? k).map Cutter.state = some .faulted := by
  rw [finishRecord_cutter]
  split
  · cases hc : s.cutter? k with
    | none => simp [hc] at h
    | some c =>
      simp only [hc, Option.map_some, Option.some.injEq] at h
      simp [Cutter.settled, h]
  · exact h

/-- Where an ended record leaves its cutter (R30, R57). -/
theorem endRecord_cutter (s : State) (r : CutRecord) (e : Ending) (u : Bool) (k : Nat) :
    (s.endRecord r e u).cutter? k =
      if r.onCutter = k then
        (s.cutter? k).map fun c => Cutter.settled { c with
          uncertain := if r.state.sentOrLater then
            joinUncertain c.uncertain { echo := r.echo, job := r.job, ending := e } else c.uncertain
          slots := c.slots.filter (· != r.id) }
      else s.cutter? k := by
  unfold State.endRecord
  dsimp only
  rw [finishRecord_cutter]
  cases u <;> cases r.state.sentOrLater <;> simp [State.cutter?]

/-! ### Commands of ended records (R57, R136) -/

/-- Marking a START as no record's leaves its kind, its cutter, its attempts and its bytes. -/
@[simp] theorem orphaned_kind (n id : Nat) (c : Command) : (c.orphaned n id).kind = c.kind := by
  unfold Command.orphaned; split <;> rfl
@[simp] theorem orphaned_onCutter (n id : Nat) (c : Command) : (c.orphaned n id).onCutter = c.onCutter := by
  unfold Command.orphaned; split <;> rfl
@[simp] theorem orphaned_attempts (n id : Nat) (c : Command) : (c.orphaned n id).attempts = c.attempts := by
  unfold Command.orphaned; split <;> rfl
@[simp] theorem orphaned_body (n id : Nat) (c : Command) : (c.orphaned n id).body = c.body := by
  unfold Command.orphaned; split <;> rfl

/-- A queue that a record's end has gone over holds commands that stood in it, and is no longer than before. -/
theorem withdraw_queue_length (s : State) (n id : Nat) : (s.withdraw n id).line.queue.length ≤ s.line.queue.length := by
  simp only [State.withdraw, State.setLine_line, List.length_map]
  exact List.length_filter_le _ _
/-- What stays of an ended record's START belongs to no record any more: every START of it that is left is marked. -/
theorem withdraw_queue_start {s : State} {n id : Nat} {c : Command} (h : c ∈ (s.withdraw n id).line.queue)
    (k : c.kind = .start id) (m : c.onCutter = n) : c.orphan = true := by
  simp only [State.withdraw, State.setLine_line, List.mem_map] at h
  obtain ⟨d, -, rfl⟩ := h
  rw [orphaned_kind] at k
  rw [orphaned_onCutter] at m
  simp [Command.orphaned, k, m]

end Sys2Proof.Machine
end

