-- ==== Sys2Proof/Laws/Line.lean ====
section
/-! SUPPORT. What the operations of the line port and the scan engine leave alone: one lemma for each block an operation does not touch. -/

namespace Sys2Proof.Machine

@[simp] theorem State.report_pending (s : State) (r : LineReport) : (s.report r).pending = s.pending := by
  rfl
@[simp] theorem State.report_seconds (s : State) (r : LineReport) : (s.report r).seconds = s.seconds := by
  rfl
@[simp] theorem State.report_freeCount (s : State) (r : LineReport) : (s.report r).freeCount = s.freeCount := by
  rfl
@[simp] theorem State.report_stock (s : State) (r : LineReport) : (s.report r).stock = s.stock := by
  rfl
@[simp] theorem State.report_plans (s : State) (r : LineReport) : (s.report r).plans = s.plans := by
  rfl
@[simp] theorem State.report_cutting (s : State) (r : LineReport) : (s.report r).cutting = s.cutting := by
  rfl
@[simp] theorem State.report_cost (s : State) (r : LineReport) : (s.report r).cost = s.cost := by
  rfl
@[simp] theorem State.report_water (s : State) (r : LineReport) : (s.report r).water = s.water := by
  rfl
@[simp] theorem State.report_gate (s : State) (r : LineReport) : (s.report r).gate = s.gate := by
  rfl
@[simp] theorem State.report_alarms (s : State) (r : LineReport) : (s.report r).alarms = s.alarms := by
  rfl
@[simp] theorem State.report_office (s : State) (r : LineReport) : (s.report r).office = s.office := by
  rfl
@[simp] theorem State.report_handler (s : State) (r : LineReport) : (s.report r).handler = s.handler := by
  rfl

@[simp] theorem State.openTx_pending (s : State) (k : TxKind) (a : Nat) (y : List Byte) : (s.openTx k a y).pending = s.pending := by
  rfl
@[simp] theorem State.openTx_seconds (s : State) (k : TxKind) (a : Nat) (y : List Byte) : (s.openTx k a y).seconds = s.seconds := by
  rfl
@[simp] theorem State.openTx_freeCount (s : State) (k : TxKind) (a : Nat) (y : List Byte) : (s.openTx k a y).freeCount = s.freeCount := by
  rfl
@[simp] theorem State.openTx_stock (s : State) (k : TxKind) (a : Nat) (y : List Byte) : (s.openTx k a y).stock = s.stock := by
  rfl
@[simp] theorem State.openTx_plans (s : State) (k : TxKind) (a : Nat) (y : List Byte) : (s.openTx k a y).plans = s.plans := by
  rfl
@[simp] theorem State.openTx_cutting (s : State) (k : TxKind) (a : Nat) (y : List Byte) : (s.openTx k a y).cutting = s.cutting := by
  rfl
@[simp] theorem State.openTx_cost (s : State) (k : TxKind) (a : Nat) (y : List Byte) : (s.openTx k a y).cost = s.cost := by
  rfl
@[simp] theorem State.openTx_water (s : State) (k : TxKind) (a : Nat) (y : List Byte) : (s.openTx k a y).water = s.water := by
  rfl
@[simp] theorem State.openTx_gate (s : State) (k : TxKind) (a : Nat) (y : List Byte) : (s.openTx k a y).gate = s.gate := by
  rfl
@[simp] theorem State.openTx_alarms (s : State) (k : TxKind) (a : Nat) (y : List Byte) : (s.openTx k a y).alarms = s.alarms := by
  rfl
@[simp] theorem State.openTx_office (s : State) (k : TxKind) (a : Nat) (y : List Byte) : (s.openTx k a y).office = s.office := by
  rfl
@[simp] theorem State.openTx_handler (s : State) (k : TxKind) (a : Nat) (y : List Byte) : (s.openTx k a y).handler = s.handler := by
  rfl

@[simp] theorem State.freeLine_pending (s : State) : (s.freeLine).pending = s.pending := by
  rfl
@[simp] theorem State.freeLine_seconds (s : State) : (s.freeLine).seconds = s.seconds := by
  rfl
@[simp] theorem State.freeLine_freeCount (s : State) : (s.freeLine).freeCount = s.freeCount := by
  rfl
@[simp] theorem State.freeLine_stock (s : State) : (s.freeLine).stock = s.stock := by
  rfl
@[simp] theorem State.freeLine_plans (s : State) : (s.freeLine).plans = s.plans := by
  rfl
@[simp] theorem State.freeLine_cutting (s : State) : (s.freeLine).cutting = s.cutting := by
  rfl
@[simp] theorem State.freeLine_cost (s : State) : (s.freeLine).cost = s.cost := by
  rfl
@[simp] theorem State.freeLine_water (s : State) : (s.freeLine).water = s.water := by
  rfl
@[simp] theorem State.freeLine_gate (s : State) : (s.freeLine).gate = s.gate := by
  rfl
@[simp] theorem State.freeLine_alarms (s : State) : (s.freeLine).alarms = s.alarms := by
  rfl
@[simp] theorem State.freeLine_office (s : State) : (s.freeLine).office = s.office := by
  rfl
@[simp] theorem State.freeLine_handler (s : State) : (s.freeLine).handler = s.handler := by
  rfl

@[simp] theorem State.beginBroadcast_pending (s : State) (b : Broadcast) : (s.beginBroadcast b).pending = s.pending := by
  rfl
@[simp] theorem State.beginBroadcast_seconds (s : State) (b : Broadcast) : (s.beginBroadcast b).seconds = s.seconds := by
  rfl
@[simp] theorem State.beginBroadcast_freeCount (s : State) (b : Broadcast) : (s.beginBroadcast b).freeCount = s.freeCount := by
  rfl
@[simp] theorem State.beginBroadcast_stock (s : State) (b : Broadcast) : (s.beginBroadcast b).stock = s.stock := by
  rfl
@[simp] theorem State.beginBroadcast_plans (s : State) (b : Broadcast) : (s.beginBroadcast b).plans = s.plans := by
  rfl
@[simp] theorem State.beginBroadcast_cutting (s : State) (b : Broadcast) : (s.beginBroadcast b).cutting = s.cutting := by
  rfl
@[simp] theorem State.beginBroadcast_cost (s : State) (b : Broadcast) : (s.beginBroadcast b).cost = s.cost := by
  rfl
@[simp] theorem State.beginBroadcast_water (s : State) (b : Broadcast) : (s.beginBroadcast b).water = s.water := by
  rfl
@[simp] theorem State.beginBroadcast_gate (s : State) (b : Broadcast) : (s.beginBroadcast b).gate = s.gate := by
  rfl
@[simp] theorem State.beginBroadcast_alarms (s : State) (b : Broadcast) : (s.beginBroadcast b).alarms = s.alarms := by
  rfl
@[simp] theorem State.beginBroadcast_office (s : State) (b : Broadcast) : (s.beginBroadcast b).office = s.office := by
  rfl
@[simp] theorem State.beginBroadcast_handler (s : State) (b : Broadcast) : (s.beginBroadcast b).handler = s.handler := by
  rfl

@[simp] theorem State.endBroadcast_pending (s : State) : (s.endBroadcast).pending = s.pending := by
  rfl
@[simp] theorem State.endBroadcast_seconds (s : State) : (s.endBroadcast).seconds = s.seconds := by
  rfl
@[simp] theorem State.endBroadcast_freeCount (s : State) : (s.endBroadcast).freeCount = s.freeCount := by
  rfl
@[simp] theorem State.endBroadcast_stock (s : State) : (s.endBroadcast).stock = s.stock := by
  rfl
@[simp] theorem State.endBroadcast_plans (s : State) : (s.endBroadcast).plans = s.plans := by
  rfl
@[simp] theorem State.endBroadcast_cutting (s : State) : (s.endBroadcast).cutting = s.cutting := by
  rfl
@[simp] theorem State.endBroadcast_cost (s : State) : (s.endBroadcast).cost = s.cost := by
  rfl
@[simp] theorem State.endBroadcast_water (s : State) : (s.endBroadcast).water = s.water := by
  rfl
@[simp] theorem State.endBroadcast_gate (s : State) : (s.endBroadcast).gate = s.gate := by
  rfl
@[simp] theorem State.endBroadcast_alarms (s : State) : (s.endBroadcast).alarms = s.alarms := by
  rfl
@[simp] theorem State.endBroadcast_office (s : State) : (s.endBroadcast).office = s.office := by
  rfl
@[simp] theorem State.endBroadcast_handler (s : State) : (s.endBroadcast).handler = s.handler := by
  rfl

@[simp] theorem State.popCommand_pending (s : State) : (s.popCommand).pending = s.pending := by
  rfl
@[simp] theorem State.popCommand_seconds (s : State) : (s.popCommand).seconds = s.seconds := by
  rfl
@[simp] theorem State.popCommand_freeCount (s : State) : (s.popCommand).freeCount = s.freeCount := by
  rfl
@[simp] theorem State.popCommand_stock (s : State) : (s.popCommand).stock = s.stock := by
  rfl
@[simp] theorem State.popCommand_plans (s : State) : (s.popCommand).plans = s.plans := by
  rfl
@[simp] theorem State.popCommand_cutting (s : State) : (s.popCommand).cutting = s.cutting := by
  rfl
@[simp] theorem State.popCommand_cost (s : State) : (s.popCommand).cost = s.cost := by
  rfl
@[simp] theorem State.popCommand_water (s : State) : (s.popCommand).water = s.water := by
  rfl
@[simp] theorem State.popCommand_gate (s : State) : (s.popCommand).gate = s.gate := by
  rfl
@[simp] theorem State.popCommand_alarms (s : State) : (s.popCommand).alarms = s.alarms := by
  rfl
@[simp] theorem State.popCommand_office (s : State) : (s.popCommand).office = s.office := by
  rfl
@[simp] theorem State.popCommand_handler (s : State) : (s.popCommand).handler = s.handler := by
  rfl

@[simp] theorem State.closeTx_pending (s : State) (t : Tx) (a : Bool) (o : PollOutcome) : (s.closeTx t a o).pending = s.pending := by
  rfl
@[simp] theorem State.closeTx_seconds (s : State) (t : Tx) (a : Bool) (o : PollOutcome) : (s.closeTx t a o).seconds = s.seconds := by
  rfl
@[simp] theorem State.closeTx_freeCount (s : State) (t : Tx) (a : Bool) (o : PollOutcome) : (s.closeTx t a o).freeCount = s.freeCount := by
  rfl
@[simp] theorem State.closeTx_stock (s : State) (t : Tx) (a : Bool) (o : PollOutcome) : (s.closeTx t a o).stock = s.stock := by
  rfl
@[simp] theorem State.closeTx_plans (s : State) (t : Tx) (a : Bool) (o : PollOutcome) : (s.closeTx t a o).plans = s.plans := by
  rfl
@[simp] theorem State.closeTx_cutting (s : State) (t : Tx) (a : Bool) (o : PollOutcome) : (s.closeTx t a o).cutting = s.cutting := by
  rfl
@[simp] theorem State.closeTx_cost (s : State) (t : Tx) (a : Bool) (o : PollOutcome) : (s.closeTx t a o).cost = s.cost := by
  rfl
@[simp] theorem State.closeTx_water (s : State) (t : Tx) (a : Bool) (o : PollOutcome) : (s.closeTx t a o).water = s.water := by
  rfl
@[simp] theorem State.closeTx_gate (s : State) (t : Tx) (a : Bool) (o : PollOutcome) : (s.closeTx t a o).gate = s.gate := by
  rfl
@[simp] theorem State.closeTx_alarms (s : State) (t : Tx) (a : Bool) (o : PollOutcome) : (s.closeTx t a o).alarms = s.alarms := by
  rfl
@[simp] theorem State.closeTx_office (s : State) (t : Tx) (a : Bool) (o : PollOutcome) : (s.closeTx t a o).office = s.office := by
  rfl
@[simp] theorem State.closeTx_handler (s : State) (t : Tx) (a : Bool) (o : PollOutcome) : (s.closeTx t a o).handler = s.handler := by
  rfl

@[simp] theorem State.hunt_pending (s : State) : (s.hunt).pending = s.pending := by
  rfl
@[simp] theorem State.hunt_seconds (s : State) : (s.hunt).seconds = s.seconds := by
  rfl
@[simp] theorem State.hunt_freeCount (s : State) : (s.hunt).freeCount = s.freeCount := by
  rfl
@[simp] theorem State.hunt_stock (s : State) : (s.hunt).stock = s.stock := by
  rfl
@[simp] theorem State.hunt_plans (s : State) : (s.hunt).plans = s.plans := by
  rfl
@[simp] theorem State.hunt_cutting (s : State) : (s.hunt).cutting = s.cutting := by
  rfl
@[simp] theorem State.hunt_cost (s : State) : (s.hunt).cost = s.cost := by
  rfl
@[simp] theorem State.hunt_water (s : State) : (s.hunt).water = s.water := by
  rfl
@[simp] theorem State.hunt_gate (s : State) : (s.hunt).gate = s.gate := by
  rfl
@[simp] theorem State.hunt_alarms (s : State) : (s.hunt).alarms = s.alarms := by
  rfl
@[simp] theorem State.hunt_office (s : State) : (s.hunt).office = s.office := by
  rfl
@[simp] theorem State.hunt_handler (s : State) : (s.hunt).handler = s.handler := by
  rfl

@[simp] theorem State.creditStation_pending (s : State) (a : Nat) : (s.creditStation a).pending = s.pending := by
  unfold State.creditStation; (repeat' split) <;> simp
@[simp] theorem State.creditStation_seconds (s : State) (a : Nat) : (s.creditStation a).seconds = s.seconds := by
  unfold State.creditStation; (repeat' split) <;> simp
@[simp] theorem State.creditStation_freeCount (s : State) (a : Nat) : (s.creditStation a).freeCount = s.freeCount := by
  unfold State.creditStation; (repeat' split) <;> simp
@[simp] theorem State.creditStation_stock (s : State) (a : Nat) : (s.creditStation a).stock = s.stock := by
  unfold State.creditStation; (repeat' split) <;> simp
@[simp] theorem State.creditStation_plans (s : State) (a : Nat) : (s.creditStation a).plans = s.plans := by
  unfold State.creditStation; (repeat' split) <;> simp
@[simp] theorem State.creditStation_cutting (s : State) (a : Nat) : (s.creditStation a).cutting = s.cutting := by
  unfold State.creditStation; (repeat' split) <;> simp
@[simp] theorem State.creditStation_cost (s : State) (a : Nat) : (s.creditStation a).cost = s.cost := by
  unfold State.creditStation; (repeat' split) <;> simp
@[simp] theorem State.creditStation_water (s : State) (a : Nat) : (s.creditStation a).water = s.water := by
  unfold State.creditStation; (repeat' split) <;> simp
@[simp] theorem State.creditStation_gate (s : State) (a : Nat) : (s.creditStation a).gate = s.gate := by
  unfold State.creditStation; (repeat' split) <;> simp
@[simp] theorem State.creditStation_alarms (s : State) (a : Nat) : (s.creditStation a).alarms = s.alarms := by
  unfold State.creditStation; (repeat' split) <;> simp
@[simp] theorem State.creditStation_office (s : State) (a : Nat) : (s.creditStation a).office = s.office := by
  unfold State.creditStation; (repeat' split) <;> simp
@[simp] theorem State.creditStation_handler (s : State) (a : Nat) : (s.creditStation a).handler = s.handler := by
  unfold State.creditStation; (repeat' split) <;> simp

@[simp] theorem State.nextSlot_pending (s : State) : (s.nextSlot).pending = s.pending := by
  unfold State.nextSlot; (repeat' split) <;> simp
@[simp] theorem State.nextSlot_seconds (s : State) : (s.nextSlot).seconds = s.seconds := by
  unfold State.nextSlot; (repeat' split) <;> simp
@[simp] theorem State.nextSlot_freeCount (s : State) : (s.nextSlot).freeCount = s.freeCount := by
  unfold State.nextSlot; (repeat' split) <;> simp
@[simp] theorem State.nextSlot_stock (s : State) : (s.nextSlot).stock = s.stock := by
  unfold State.nextSlot; (repeat' split) <;> simp
@[simp] theorem State.nextSlot_plans (s : State) : (s.nextSlot).plans = s.plans := by
  unfold State.nextSlot; (repeat' split) <;> simp
@[simp] theorem State.nextSlot_cutting (s : State) : (s.nextSlot).cutting = s.cutting := by
  unfold State.nextSlot; (repeat' split) <;> simp
@[simp] theorem State.nextSlot_cost (s : State) : (s.nextSlot).cost = s.cost := by
  unfold State.nextSlot; (repeat' split) <;> simp
@[simp] theorem State.nextSlot_water (s : State) : (s.nextSlot).water = s.water := by
  unfold State.nextSlot; (repeat' split) <;> simp
@[simp] theorem State.nextSlot_gate (s : State) : (s.nextSlot).gate = s.gate := by
  unfold State.nextSlot; (repeat' split) <;> simp
@[simp] theorem State.nextSlot_alarms (s : State) : (s.nextSlot).alarms = s.alarms := by
  unfold State.nextSlot; (repeat' split) <;> simp
@[simp] theorem State.nextSlot_office (s : State) : (s.nextSlot).office = s.office := by
  unfold State.nextSlot; (repeat' split) <;> simp
@[simp] theorem State.nextSlot_handler (s : State) : (s.nextSlot).handler = s.handler := by
  unfold State.nextSlot; (repeat' split) <;> simp

@[simp] theorem State.dropMissed_pending (s : State) : (s.dropMissed).pending = s.pending := by
  unfold State.dropMissed; (repeat' split) <;> simp
@[simp] theorem State.dropMissed_seconds (s : State) : (s.dropMissed).seconds = s.seconds := by
  unfold State.dropMissed; (repeat' split) <;> simp
@[simp] theorem State.dropMissed_freeCount (s : State) : (s.dropMissed).freeCount = s.freeCount := by
  unfold State.dropMissed; (repeat' split) <;> simp
@[simp] theorem State.dropMissed_stock (s : State) : (s.dropMissed).stock = s.stock := by
  unfold State.dropMissed; (repeat' split) <;> simp
@[simp] theorem State.dropMissed_plans (s : State) : (s.dropMissed).plans = s.plans := by
  unfold State.dropMissed; (repeat' split) <;> simp
@[simp] theorem State.dropMissed_cutting (s : State) : (s.dropMissed).cutting = s.cutting := by
  unfold State.dropMissed; (repeat' split) <;> simp
@[simp] theorem State.dropMissed_cost (s : State) : (s.dropMissed).cost = s.cost := by
  unfold State.dropMissed; (repeat' split) <;> simp
@[simp] theorem State.dropMissed_water (s : State) : (s.dropMissed).water = s.water := by
  unfold State.dropMissed; (repeat' split) <;> simp
@[simp] theorem State.dropMissed_gate (s : State) : (s.dropMissed).gate = s.gate := by
  unfold State.dropMissed; (repeat' split) <;> simp
@[simp] theorem State.dropMissed_alarms (s : State) : (s.dropMissed).alarms = s.alarms := by
  unfold State.dropMissed; (repeat' split) <;> simp
@[simp] theorem State.dropMissed_office (s : State) : (s.dropMissed).office = s.office := by
  unfold State.dropMissed; (repeat' split) <;> simp
@[simp] theorem State.dropMissed_handler (s : State) : (s.dropMissed).handler = s.handler := by
  unfold State.dropMissed; (repeat' split) <;> simp

@[simp] theorem State.readerPolled_pending (s : State) (a : Nat) : (s.readerPolled a).pending = s.pending := by
  unfold State.readerPolled; (repeat' split) <;> simp
@[simp] theorem State.readerPolled_seconds (s : State) (a : Nat) : (s.readerPolled a).seconds = s.seconds := by
  unfold State.readerPolled; (repeat' split) <;> simp
@[simp] theorem State.readerPolled_freeCount (s : State) (a : Nat) : (s.readerPolled a).freeCount = s.freeCount := by
  unfold State.readerPolled; (repeat' split) <;> simp
@[simp] theorem State.readerPolled_stock (s : State) (a : Nat) : (s.readerPolled a).stock = s.stock := by
  unfold State.readerPolled; (repeat' split) <;> simp
@[simp] theorem State.readerPolled_plans (s : State) (a : Nat) : (s.readerPolled a).plans = s.plans := by
  unfold State.readerPolled; (repeat' split) <;> simp
@[simp] theorem State.readerPolled_cutting (s : State) (a : Nat) : (s.readerPolled a).cutting = s.cutting := by
  unfold State.readerPolled; (repeat' split) <;> simp
@[simp] theorem State.readerPolled_cost (s : State) (a : Nat) : (s.readerPolled a).cost = s.cost := by
  unfold State.readerPolled; (repeat' split) <;> simp
@[simp] theorem State.readerPolled_water (s : State) (a : Nat) : (s.readerPolled a).water = s.water := by
  unfold State.readerPolled; (repeat' split) <;> simp
@[simp] theorem State.readerPolled_gate (s : State) (a : Nat) : (s.readerPolled a).gate = s.gate := by
  unfold State.readerPolled; (repeat' split) <;> simp
@[simp] theorem State.readerPolled_alarms (s : State) (a : Nat) : (s.readerPolled a).alarms = s.alarms := by
  unfold State.readerPolled; (repeat' split) <;> simp
@[simp] theorem State.readerPolled_office (s : State) (a : Nat) : (s.readerPolled a).office = s.office := by
  unfold State.readerPolled; (repeat' split) <;> simp
@[simp] theorem State.readerPolled_handler (s : State) (a : Nat) : (s.readerPolled a).handler = s.handler := by
  unfold State.readerPolled; (repeat' split) <;> simp

@[simp] theorem State.loseStation_pending (s : State) (st : Station) : (s.loseStation st).pending = s.pending := by
  unfold State.loseStation; simp
@[simp] theorem State.loseStation_seconds (s : State) (st : Station) : (s.loseStation st).seconds = s.seconds := by
  unfold State.loseStation; simp
@[simp] theorem State.loseStation_freeCount (s : State) (st : Station) : (s.loseStation st).freeCount = s.freeCount := by
  unfold State.loseStation; simp
@[simp] theorem State.loseStation_stock (s : State) (st : Station) : (s.loseStation st).stock = s.stock := by
  unfold State.loseStation; simp
@[simp] theorem State.loseStation_plans (s : State) (st : Station) : (s.loseStation st).plans = s.plans := by
  unfold State.loseStation; simp
@[simp] theorem State.loseStation_cutting (s : State) (st : Station) : (s.loseStation st).cutting = s.cutting := by
  unfold State.loseStation; simp
@[simp] theorem State.loseStation_cost (s : State) (st : Station) : (s.loseStation st).cost = s.cost := by
  unfold State.loseStation; simp
@[simp] theorem State.loseStation_water (s : State) (st : Station) : (s.loseStation st).water = s.water := by
  unfold State.loseStation; simp
@[simp] theorem State.loseStation_office (s : State) (st : Station) : (s.loseStation st).office = s.office := by
  unfold State.loseStation; simp
@[simp] theorem State.loseStation_handler (s : State) (st : Station) : (s.loseStation st).handler = s.handler := by
  unfold State.loseStation; simp

@[simp] theorem State.stationLost_pending (s : State) (st : Station) : (s.stationLost st).pending = s.pending := by
  unfold State.stationLost; dsimp only; (repeat' split) <;> simp
@[simp] theorem State.stationLost_seconds (s : State) (st : Station) : (s.stationLost st).seconds = s.seconds := by
  unfold State.stationLost; dsimp only; (repeat' split) <;> simp
@[simp] theorem State.stationLost_freeCount (s : State) (st : Station) : (s.stationLost st).freeCount = s.freeCount := by
  unfold State.stationLost; dsimp only; (repeat' split) <;> simp
@[simp] theorem State.stationLost_stock (s : State) (st : Station) : (s.stationLost st).stock = s.stock := by
  unfold State.stationLost; dsimp only; (repeat' split) <;> simp
@[simp] theorem State.stationLost_plans (s : State) (st : Station) : (s.stationLost st).plans = s.plans := by
  unfold State.stationLost; dsimp only; (repeat' split) <;> simp
@[simp] theorem State.stationLost_cutting (s : State) (st : Station) : (s.stationLost st).cutting = s.cutting := by
  unfold State.stationLost; dsimp only; (repeat' split) <;> simp
@[simp] theorem State.stationLost_cost (s : State) (st : Station) : (s.stationLost st).cost = s.cost := by
  unfold State.stationLost; dsimp only; (repeat' split) <;> simp
@[simp] theorem State.stationLost_water (s : State) (st : Station) : (s.stationLost st).water = s.water := by
  unfold State.stationLost; dsimp only; (repeat' split) <;> simp
@[simp] theorem State.stationLost_office (s : State) (st : Station) : (s.stationLost st).office = s.office := by
  unfold State.stationLost; dsimp only; (repeat' split) <;> simp
@[simp] theorem State.stationLost_handler (s : State) (st : Station) : (s.stationLost st).handler = s.handler := by
  unfold State.stationLost; dsimp only; (repeat' split) <;> simp

@[simp] theorem State.failStation_pending (s : State) (a : Nat) : (s.failStation a).pending = s.pending := by
  unfold State.failStation; dsimp only; (repeat' split) <;> simp
@[simp] theorem State.failStation_seconds (s : State) (a : Nat) : (s.failStation a).seconds = s.seconds := by
  unfold State.failStation; dsimp only; (repeat' split) <;> simp
@[simp] theorem State.failStation_freeCount (s : State) (a : Nat) : (s.failStation a).freeCount = s.freeCount := by
  unfold State.failStation; dsimp only; (repeat' split) <;> simp
@[simp] theorem State.failStation_stock (s : State) (a : Nat) : (s.failStation a).stock = s.stock := by
  unfold State.failStation; dsimp only; (repeat' split) <;> simp
@[simp] theorem State.failStation_plans (s : State) (a : Nat) : (s.failStation a).plans = s.plans := by
  unfold State.failStation; dsimp only; (repeat' split) <;> simp
@[simp] theorem State.failStation_cutting (s : State) (a : Nat) : (s.failStation a).cutting = s.cutting := by
  unfold State.failStation; dsimp only; (repeat' split) <;> simp
@[simp] theorem State.failStation_cost (s : State) (a : Nat) : (s.failStation a).cost = s.cost := by
  unfold State.failStation; dsimp only; (repeat' split) <;> simp
@[simp] theorem State.failStation_water (s : State) (a : Nat) : (s.failStation a).water = s.water := by
  unfold State.failStation; dsimp only; (repeat' split) <;> simp
@[simp] theorem State.failStation_office (s : State) (a : Nat) : (s.failStation a).office = s.office := by
  unfold State.failStation; dsimp only; (repeat' split) <;> simp
@[simp] theorem State.failStation_handler (s : State) (a : Nat) : (s.failStation a).handler = s.handler := by
  unfold State.failStation; dsimp only; (repeat' split) <;> simp

@[simp] theorem State.slotMissed_pending (s : State) (r : SlotRef) : (s.slotMissed r).pending = s.pending := by
  unfold State.slotMissed; (repeat' split) <;> simp
@[simp] theorem State.slotMissed_seconds (s : State) (r : SlotRef) : (s.slotMissed r).seconds = s.seconds := by
  unfold State.slotMissed; (repeat' split) <;> simp
@[simp] theorem State.slotMissed_freeCount (s : State) (r : SlotRef) : (s.slotMissed r).freeCount = s.freeCount := by
  unfold State.slotMissed; (repeat' split) <;> simp
@[simp] theorem State.slotMissed_stock (s : State) (r : SlotRef) : (s.slotMissed r).stock = s.stock := by
  unfold State.slotMissed; (repeat' split) <;> simp
@[simp] theorem State.slotMissed_plans (s : State) (r : SlotRef) : (s.slotMissed r).plans = s.plans := by
  unfold State.slotMissed; (repeat' split) <;> simp
@[simp] theorem State.slotMissed_cutting (s : State) (r : SlotRef) : (s.slotMissed r).cutting = s.cutting := by
  unfold State.slotMissed; (repeat' split) <;> simp
@[simp] theorem State.slotMissed_cost (s : State) (r : SlotRef) : (s.slotMissed r).cost = s.cost := by
  unfold State.slotMissed; (repeat' split) <;> simp
@[simp] theorem State.slotMissed_water (s : State) (r : SlotRef) : (s.slotMissed r).water = s.water := by
  unfold State.slotMissed; (repeat' split) <;> simp
@[simp] theorem State.slotMissed_gate (s : State) (r : SlotRef) : (s.slotMissed r).gate = s.gate := by
  unfold State.slotMissed; (repeat' split) <;> simp
@[simp] theorem State.slotMissed_alarms (s : State) (r : SlotRef) : (s.slotMissed r).alarms = s.alarms := by
  unfold State.slotMissed; (repeat' split) <;> simp
@[simp] theorem State.slotMissed_office (s : State) (r : SlotRef) : (s.slotMissed r).office = s.office := by
  unfold State.slotMissed; (repeat' split) <;> simp
@[simp] theorem State.slotMissed_handler (s : State) (r : SlotRef) : (s.slotMissed r).handler = s.handler := by
  unfold State.slotMissed; (repeat' split) <;> simp

@[simp] theorem State.slotAcked_pending (s : State) (r : SlotRef) : (s.slotAcked r).pending = s.pending := by
  unfold State.slotAcked; dsimp only; split <;> simp
@[simp] theorem State.slotAcked_seconds (s : State) (r : SlotRef) : (s.slotAcked r).seconds = s.seconds := by
  unfold State.slotAcked; dsimp only; split <;> simp
@[simp] theorem State.slotAcked_freeCount (s : State) (r : SlotRef) : (s.slotAcked r).freeCount = s.freeCount := by
  unfold State.slotAcked; dsimp only; split <;> simp
@[simp] theorem State.slotAcked_stock (s : State) (r : SlotRef) : (s.slotAcked r).stock = s.stock := by
  unfold State.slotAcked; dsimp only; split <;> simp
@[simp] theorem State.slotAcked_plans (s : State) (r : SlotRef) : (s.slotAcked r).plans = s.plans := by
  unfold State.slotAcked; dsimp only; split <;> simp
@[simp] theorem State.slotAcked_cost (s : State) (r : SlotRef) : (s.slotAcked r).cost = s.cost := by
  unfold State.slotAcked; dsimp only; split <;> simp
@[simp] theorem State.slotAcked_water (s : State) (r : SlotRef) : (s.slotAcked r).water = s.water := by
  unfold State.slotAcked; dsimp only; split <;> simp
@[simp] theorem State.slotAcked_gate (s : State) (r : SlotRef) : (s.slotAcked r).gate = s.gate := by
  unfold State.slotAcked; dsimp only; split <;> simp
@[simp] theorem State.slotAcked_alarms (s : State) (r : SlotRef) : (s.slotAcked r).alarms = s.alarms := by
  unfold State.slotAcked; dsimp only; split <;> simp
@[simp] theorem State.slotAcked_office (s : State) (r : SlotRef) : (s.slotAcked r).office = s.office := by
  unfold State.slotAcked; dsimp only; split <;> simp
@[simp] theorem State.slotAcked_handler (s : State) (r : SlotRef) : (s.slotAcked r).handler = s.handler := by
  unfold State.slotAcked; dsimp only; split <;> simp

@[simp] theorem State.retryAcked_pending (s : State) (r : SlotRef) : (s.retryAcked r).pending = s.pending := by
  unfold State.retryAcked; split <;> simp
@[simp] theorem State.retryAcked_seconds (s : State) (r : SlotRef) : (s.retryAcked r).seconds = s.seconds := by
  unfold State.retryAcked; split <;> simp
@[simp] theorem State.retryAcked_freeCount (s : State) (r : SlotRef) : (s.retryAcked r).freeCount = s.freeCount := by
  unfold State.retryAcked; split <;> simp
@[simp] theorem State.retryAcked_stock (s : State) (r : SlotRef) : (s.retryAcked r).stock = s.stock := by
  unfold State.retryAcked; split <;> simp
@[simp] theorem State.retryAcked_plans (s : State) (r : SlotRef) : (s.retryAcked r).plans = s.plans := by
  unfold State.retryAcked; split <;> simp
@[simp] theorem State.retryAcked_cost (s : State) (r : SlotRef) : (s.retryAcked r).cost = s.cost := by
  unfold State.retryAcked; split <;> simp
@[simp] theorem State.retryAcked_water (s : State) (r : SlotRef) : (s.retryAcked r).water = s.water := by
  unfold State.retryAcked; split <;> simp
@[simp] theorem State.retryAcked_gate (s : State) (r : SlotRef) : (s.retryAcked r).gate = s.gate := by
  unfold State.retryAcked; split <;> simp
@[simp] theorem State.retryAcked_alarms (s : State) (r : SlotRef) : (s.retryAcked r).alarms = s.alarms := by
  unfold State.retryAcked; split <;> simp
@[simp] theorem State.retryAcked_office (s : State) (r : SlotRef) : (s.retryAcked r).office = s.office := by
  unfold State.retryAcked; split <;> simp
@[simp] theorem State.retryAcked_handler (s : State) (r : SlotRef) : (s.retryAcked r).handler = s.handler := by
  unfold State.retryAcked; split <;> simp

@[simp] theorem State.retryFailed_pending (s : State) (r : SlotRef) : (s.retryFailed r).pending = s.pending := by
  unfold State.retryFailed; dsimp only; (repeat' split) <;> simp
@[simp] theorem State.retryFailed_seconds (s : State) (r : SlotRef) : (s.retryFailed r).seconds = s.seconds := by
  unfold State.retryFailed; dsimp only; (repeat' split) <;> simp
@[simp] theorem State.retryFailed_freeCount (s : State) (r : SlotRef) : (s.retryFailed r).freeCount = s.freeCount := by
  unfold State.retryFailed; dsimp only; (repeat' split) <;> simp
@[simp] theorem State.retryFailed_stock (s : State) (r : SlotRef) : (s.retryFailed r).stock = s.stock := by
  unfold State.retryFailed; dsimp only; (repeat' split) <;> simp
@[simp] theorem State.retryFailed_plans (s : State) (r : SlotRef) : (s.retryFailed r).plans = s.plans := by
  unfold State.retryFailed; dsimp only; (repeat' split) <;> simp
@[simp] theorem State.retryFailed_cutting (s : State) (r : SlotRef) : (s.retryFailed r).cutting = s.cutting := by
  unfold State.retryFailed; dsimp only; (repeat' split) <;> simp
@[simp] theorem State.retryFailed_cost (s : State) (r : SlotRef) : (s.retryFailed r).cost = s.cost := by
  unfold State.retryFailed; dsimp only; (repeat' split) <;> simp
@[simp] theorem State.retryFailed_water (s : State) (r : SlotRef) : (s.retryFailed r).water = s.water := by
  unfold State.retryFailed; dsimp only; (repeat' split) <;> simp
@[simp] theorem State.retryFailed_office (s : State) (r : SlotRef) : (s.retryFailed r).office = s.office := by
  unfold State.retryFailed; dsimp only; (repeat' split) <;> simp
@[simp] theorem State.retryFailed_handler (s : State) (r : SlotRef) : (s.retryFailed r).handler = s.handler := by
  unfold State.retryFailed; dsimp only; (repeat' split) <;> simp

@[simp] theorem State.retryAttemptFailed_pending (s : State) (r : SlotRef) (l : Bool) : (s.retryAttemptFailed r l).pending = s.pending := by
  unfold State.retryAttemptFailed; (repeat' split) <;> simp
@[simp] theorem State.retryAttemptFailed_seconds (s : State) (r : SlotRef) (l : Bool) : (s.retryAttemptFailed r l).seconds = s.seconds := by
  unfold State.retryAttemptFailed; (repeat' split) <;> simp
@[simp] theorem State.retryAttemptFailed_freeCount (s : State) (r : SlotRef) (l : Bool) : (s.retryAttemptFailed r l).freeCount = s.freeCount := by
  unfold State.retryAttemptFailed; (repeat' split) <;> simp
@[simp] theorem State.retryAttemptFailed_stock (s : State) (r : SlotRef) (l : Bool) : (s.retryAttemptFailed r l).stock = s.stock := by
  unfold State.retryAttemptFailed; (repeat' split) <;> simp
@[simp] theorem State.retryAttemptFailed_plans (s : State) (r : SlotRef) (l : Bool) : (s.retryAttemptFailed r l).plans = s.plans := by
  unfold State.retryAttemptFailed; (repeat' split) <;> simp
@[simp] theorem State.retryAttemptFailed_cutting (s : State) (r : SlotRef) (l : Bool) : (s.retryAttemptFailed r l).cutting = s.cutting := by
  unfold State.retryAttemptFailed; (repeat' split) <;> simp
@[simp] theorem State.retryAttemptFailed_cost (s : State) (r : SlotRef) (l : Bool) : (s.retryAttemptFailed r l).cost = s.cost := by
  unfold State.retryAttemptFailed; (repeat' split) <;> simp
@[simp] theorem State.retryAttemptFailed_water (s : State) (r : SlotRef) (l : Bool) : (s.retryAttemptFailed r l).water = s.water := by
  unfold State.retryAttemptFailed; (repeat' split) <;> simp
@[simp] theorem State.retryAttemptFailed_office (s : State) (r : SlotRef) (l : Bool) : (s.retryAttemptFailed r l).office = s.office := by
  unfold State.retryAttemptFailed; (repeat' split) <;> simp
@[simp] theorem State.retryAttemptFailed_handler (s : State) (r : SlotRef) (l : Bool) : (s.retryAttemptFailed r l).handler = s.handler := by
  unfold State.retryAttemptFailed; (repeat' split) <;> simp

@[simp] theorem State.commandFailed_pending (s : State) (c : Command) : (s.commandFailed c).pending = s.pending := by
  unfold State.commandFailed; split <;> rfl
@[simp] theorem State.commandFailed_seconds (s : State) (c : Command) : (s.commandFailed c).seconds = s.seconds := by
  unfold State.commandFailed; split <;> rfl
@[simp] theorem State.commandFailed_freeCount (s : State) (c : Command) : (s.commandFailed c).freeCount = s.freeCount := by
  unfold State.commandFailed; split <;> rfl
@[simp] theorem State.commandFailed_stock (s : State) (c : Command) : (s.commandFailed c).stock = s.stock := by
  unfold State.commandFailed; split <;> rfl
@[simp] theorem State.commandFailed_plans (s : State) (c : Command) : (s.commandFailed c).plans = s.plans := by
  unfold State.commandFailed; split <;> rfl
@[simp] theorem State.commandFailed_cutting (s : State) (c : Command) : (s.commandFailed c).cutting = s.cutting := by
  unfold State.commandFailed; split <;> rfl
@[simp] theorem State.commandFailed_cost (s : State) (c : Command) : (s.commandFailed c).cost = s.cost := by
  unfold State.commandFailed; split <;> rfl
@[simp] theorem State.commandFailed_water (s : State) (c : Command) : (s.commandFailed c).water = s.water := by
  unfold State.commandFailed; split <;> rfl
@[simp] theorem State.commandFailed_gate (s : State) (c : Command) : (s.commandFailed c).gate = s.gate := by
  unfold State.commandFailed; split <;> rfl
@[simp] theorem State.commandFailed_alarms (s : State) (c : Command) : (s.commandFailed c).alarms = s.alarms := by
  unfold State.commandFailed; split <;> rfl
@[simp] theorem State.commandFailed_office (s : State) (c : Command) : (s.commandFailed c).office = s.office := by
  unfold State.commandFailed; split <;> rfl
@[simp] theorem State.commandFailed_handler (s : State) (c : Command) : (s.commandFailed c).handler = s.handler := by
  unfold State.commandFailed; split <;> rfl

@[simp] theorem State.commandAcked_pending (s : State) : (s.commandAcked).pending = s.pending := by
  unfold State.commandAcked; (repeat' split) <;> simp
@[simp] theorem State.commandAcked_seconds (s : State) : (s.commandAcked).seconds = s.seconds := by
  unfold State.commandAcked; (repeat' split) <;> simp
@[simp] theorem State.commandAcked_freeCount (s : State) : (s.commandAcked).freeCount = s.freeCount := by
  unfold State.commandAcked; (repeat' split) <;> simp
@[simp] theorem State.commandAcked_stock (s : State) : (s.commandAcked).stock = s.stock := by
  unfold State.commandAcked; (repeat' split) <;> simp
@[simp] theorem State.commandAcked_plans (s : State) : (s.commandAcked).plans = s.plans := by
  unfold State.commandAcked; (repeat' split) <;> simp
@[simp] theorem State.commandAcked_cost (s : State) : (s.commandAcked).cost = s.cost := by
  unfold State.commandAcked; (repeat' split) <;> simp
@[simp] theorem State.commandAcked_water (s : State) : (s.commandAcked).water = s.water := by
  unfold State.commandAcked; (repeat' split) <;> simp
@[simp] theorem State.commandAcked_gate (s : State) : (s.commandAcked).gate = s.gate := by
  unfold State.commandAcked; (repeat' split) <;> simp
@[simp] theorem State.commandAcked_alarms (s : State) : (s.commandAcked).alarms = s.alarms := by
  unfold State.commandAcked; (repeat' split) <;> simp
@[simp] theorem State.commandAcked_office (s : State) : (s.commandAcked).office = s.office := by
  unfold State.commandAcked; (repeat' split) <;> simp
@[simp] theorem State.commandAcked_handler (s : State) : (s.commandAcked).handler = s.handler := by
  unfold State.commandAcked; (repeat' split) <;> simp

@[simp] theorem State.commandAttemptFailed_pending (s : State) : (s.commandAttemptFailed).pending = s.pending := by
  unfold State.commandAttemptFailed; (repeat' split) <;> simp
@[simp] theorem State.commandAttemptFailed_seconds (s : State) : (s.commandAttemptFailed).seconds = s.seconds := by
  unfold State.commandAttemptFailed; (repeat' split) <;> simp
@[simp] theorem State.commandAttemptFailed_freeCount (s : State) : (s.commandAttemptFailed).freeCount = s.freeCount := by
  unfold State.commandAttemptFailed; (repeat' split) <;> simp
@[simp] theorem State.commandAttemptFailed_stock (s : State) : (s.commandAttemptFailed).stock = s.stock := by
  unfold State.commandAttemptFailed; (repeat' split) <;> simp
@[simp] theorem State.commandAttemptFailed_plans (s : State) : (s.commandAttemptFailed).plans = s.plans := by
  unfold State.commandAttemptFailed; (repeat' split) <;> simp
@[simp] theorem State.commandAttemptFailed_cutting (s : State) : (s.commandAttemptFailed).cutting = s.cutting := by
  unfold State.commandAttemptFailed; (repeat' split) <;> simp
@[simp] theorem State.commandAttemptFailed_cost (s : State) : (s.commandAttemptFailed).cost = s.cost := by
  unfold State.commandAttemptFailed; (repeat' split) <;> simp
@[simp] theorem State.commandAttemptFailed_water (s : State) : (s.commandAttemptFailed).water = s.water := by
  unfold State.commandAttemptFailed; (repeat' split) <;> simp
@[simp] theorem State.commandAttemptFailed_gate (s : State) : (s.commandAttemptFailed).gate = s.gate := by
  unfold State.commandAttemptFailed; (repeat' split) <;> simp
@[simp] theorem State.commandAttemptFailed_alarms (s : State) : (s.commandAttemptFailed).alarms = s.alarms := by
  unfold State.commandAttemptFailed; (repeat' split) <;> simp
@[simp] theorem State.commandAttemptFailed_office (s : State) : (s.commandAttemptFailed).office = s.office := by
  unfold State.commandAttemptFailed; (repeat' split) <;> simp
@[simp] theorem State.commandAttemptFailed_handler (s : State) : (s.commandAttemptFailed).handler = s.handler := by
  unfold State.commandAttemptFailed; (repeat' split) <;> simp

@[simp] theorem State.engineAdvance_pending (s : State) : (s.engineAdvance).pending = s.pending := by
  unfold State.engineAdvance; dsimp only; (repeat' split) <;> simp
@[simp] theorem State.engineAdvance_seconds (s : State) : (s.engineAdvance).seconds = s.seconds := by
  unfold State.engineAdvance; dsimp only; (repeat' split) <;> simp
@[simp] theorem State.engineAdvance_freeCount (s : State) : (s.engineAdvance).freeCount = s.freeCount := by
  unfold State.engineAdvance; dsimp only; (repeat' split) <;> simp
@[simp] theorem State.engineAdvance_stock (s : State) : (s.engineAdvance).stock = s.stock := by
  unfold State.engineAdvance; dsimp only; (repeat' split) <;> simp
@[simp] theorem State.engineAdvance_plans (s : State) : (s.engineAdvance).plans = s.plans := by
  unfold State.engineAdvance; dsimp only; (repeat' split) <;> simp
@[simp] theorem State.engineAdvance_cutting (s : State) : (s.engineAdvance).cutting = s.cutting := by
  unfold State.engineAdvance; dsimp only; (repeat' split) <;> simp
@[simp] theorem State.engineAdvance_cost (s : State) : (s.engineAdvance).cost = s.cost := by
  unfold State.engineAdvance; dsimp only; (repeat' split) <;> simp
@[simp] theorem State.engineAdvance_gate (s : State) : (s.engineAdvance).gate = s.gate := by
  unfold State.engineAdvance; dsimp only; (repeat' split) <;> simp
@[simp] theorem State.engineAdvance_line (s : State) : (s.engineAdvance).line = s.line := by
  unfold State.engineAdvance; dsimp only; (repeat' split) <;> simp
@[simp] theorem State.engineAdvance_office (s : State) : (s.engineAdvance).office = s.office := by
  unfold State.engineAdvance; dsimp only; (repeat' split) <;> simp
@[simp] theorem State.engineAdvance_handler (s : State) : (s.engineAdvance).handler = s.handler := by
  unfold State.engineAdvance; dsimp only; (repeat' split) <;> simp

@[simp] theorem State.startDuePass_pending (s : State) : (s.startDuePass).pending = s.pending := by
  unfold State.startDuePass; (repeat' split) <;> simp
@[simp] theorem State.startDuePass_seconds (s : State) : (s.startDuePass).seconds = s.seconds := by
  unfold State.startDuePass; (repeat' split) <;> simp
@[simp] theorem State.startDuePass_freeCount (s : State) : (s.startDuePass).freeCount = s.freeCount := by
  unfold State.startDuePass; (repeat' split) <;> simp
@[simp] theorem State.startDuePass_stock (s : State) : (s.startDuePass).stock = s.stock := by
  unfold State.startDuePass; (repeat' split) <;> simp
@[simp] theorem State.startDuePass_plans (s : State) : (s.startDuePass).plans = s.plans := by
  unfold State.startDuePass; (repeat' split) <;> simp
@[simp] theorem State.startDuePass_cutting (s : State) : (s.startDuePass).cutting = s.cutting := by
  unfold State.startDuePass; (repeat' split) <;> simp
@[simp] theorem State.startDuePass_cost (s : State) : (s.startDuePass).cost = s.cost := by
  unfold State.startDuePass; (repeat' split) <;> simp
@[simp] theorem State.startDuePass_gate (s : State) : (s.startDuePass).gate = s.gate := by
  unfold State.startDuePass; (repeat' split) <;> simp
@[simp] theorem State.startDuePass_line (s : State) : (s.startDuePass).line = s.line := by
  unfold State.startDuePass; (repeat' split) <;> simp
@[simp] theorem State.startDuePass_alarms (s : State) : (s.startDuePass).alarms = s.alarms := by
  unfold State.startDuePass; (repeat' split) <;> simp
@[simp] theorem State.startDuePass_office (s : State) : (s.startDuePass).office = s.office := by
  unfold State.startDuePass; (repeat' split) <;> simp
@[simp] theorem State.startDuePass_handler (s : State) : (s.startDuePass).handler = s.handler := by
  unfold State.startDuePass; (repeat' split) <;> simp

@[simp] theorem State.scanPollOver_pending (s : State) : s.scanPollOver.pending = s.pending := by
  unfold State.scanPollOver; dsimp only; split <;> simp
@[simp] theorem State.scanPollOver_seconds (s : State) : s.scanPollOver.seconds = s.seconds := by
  unfold State.scanPollOver; dsimp only; split <;> simp
@[simp] theorem State.scanPollOver_freeCount (s : State) : s.scanPollOver.freeCount = s.freeCount := by
  unfold State.scanPollOver; dsimp only; split <;> simp
@[simp] theorem State.scanPollOver_stock (s : State) : s.scanPollOver.stock = s.stock := by
  unfold State.scanPollOver; dsimp only; split <;> simp
@[simp] theorem State.scanPollOver_plans (s : State) : s.scanPollOver.plans = s.plans := by
  unfold State.scanPollOver; dsimp only; split <;> simp
@[simp] theorem State.scanPollOver_cutting (s : State) : s.scanPollOver.cutting = s.cutting := by
  unfold State.scanPollOver; dsimp only; split <;> simp
@[simp] theorem State.scanPollOver_cost (s : State) : s.scanPollOver.cost = s.cost := by
  unfold State.scanPollOver; dsimp only; split <;> simp
@[simp] theorem State.scanPollOver_gate (s : State) : s.scanPollOver.gate = s.gate := by
  unfold State.scanPollOver; dsimp only; split <;> simp
@[simp] theorem State.scanPollOver_line (s : State) : s.scanPollOver.line = s.line := by
  unfold State.scanPollOver; dsimp only; split <;> simp
@[simp] theorem State.scanPollOver_office (s : State) : s.scanPollOver.office = s.office := by
  unfold State.scanPollOver; dsimp only; split <;> simp
@[simp] theorem State.scanPollOver_handler (s : State) : s.scanPollOver.handler = s.handler := by
  unfold State.scanPollOver; dsimp only; split <;> simp

/-! ### Cutters of a broadcast that are gone (R142, R143) -/

/-- Once a cutter has been removed in a broadcast, nothing under its number stands in it, defined anew or not (R142). -/
theorem cutterStands_of_removed {s : State} {r : SlotRef} (h : s.removedSince r.onCutter = true) :
    s.cutterStands r = false := by simp [State.cutterStands, h]
theorem slotStands_of_removed {s : State} {r : SlotRef} (h : s.removedSince r.onCutter = true) :
    s.slotStands r = false := by simp [State.slotStands, cutterStands_of_removed h]
/-- A cutter noted as removed is so for the broadcast in progress. -/
theorem removedSince_noteRemoved (s : State) (n : Nat) :
    (s.noteRemoved n).removedSince n = s.line.broadcast.isSome := by
  cases h : s.line.broadcast <;> simp [State.removedSince, State.noteRemoved, h]

/-! ### The end of an answered scan poll (R106, R107) -/

/-- What came back for a poll that is not of the current run is discarded (R106). -/
@[simp] theorem dealWith_of_other_run {s : State} (h : s.water.engine.flightIsCurrent = false) (n i : Nat)
    (o : PollOutcome) : s.dealWith n i o = s := by
  unfold State.dealWith; (repeat' split) <;> simp_all
/-- Nothing that came back changes no channel (R109). -/
@[simp] theorem dealWith_unanswered (s : State) (n i : Nat) : s.dealWith n i .unanswered = s := rfl
/-- A value for another sensor index is discarded (R107). -/
theorem dealWith_other_index (s : State) {n i j : Nat} (h : j ≠ i) (valid : Bool) (v : Nat) :
    s.dealWith n i (.value j valid v) = s := by
  unfold State.dealWith; (repeat' split) <;> simp_all
/-- The value of a poll of the current run, for the polled index (R107): good, or invalid. -/
theorem dealWith_value {s : State} {n i v : Nat} {valid : Bool} {ch : Channel}
    (h : s.water.engine.flightIsCurrent = true) (hc : s.channel? n = some ch) :
    s.dealWith n i (.value i valid v) =
      if valid && decide (v ≤ ch.kind.maxValue) then s.goodValue ch v else s.invalidValue ch := by
  simp [State.dealWith, h, hc]

end Sys2Proof.Machine
end

