-- ==== Sys2Proof/Laws/Settle.lean ====
section
/-! SUPPORT. What stands around a step: with nothing due `settle` changes nothing, the two arbiters touch only what goes on
at the two links, and an item that stands next gets exactly one result. -/

namespace Sys2Proof.Machine

/-! ### settle -/

/-- Nothing due is nothing taken. -/
theorem takeDue_of_quiet {s : State} (h : s.quiet = true) : s.takeDue = none := by
  simp only [State.quiet, Bool.and_eq_true, List.isEmpty_iff, Bool.not_eq_true'] at h
  obtain ⟨⟨⟨⟨hr, ht⟩, hs⟩, hp⟩, hw⟩ := h
  simp [State.takeDue, hr, ht, hs, hp, hw]

/-- With nothing due, nothing changes. -/
@[simp] theorem settle_of_quiet {s : State} (h : s.quiet = true) : s.settle = s := by
  unfold State.settle
  simp [State.settleTimes, takeDue_of_quiet h]

/-- What everything due keeps, with the arbiters moving on after it, settling keeps. -/
theorem settle_keeps {P : State → Prop} (h : ∀ s t, P s → s.takeDue = some t → P t.finish) (s : State) (hs : P s) :
    P s.settle := by
  unfold State.settle
  generalize s.line.reports.length + s.line.queue.length + s.gate.waiting.length + s.cutting.records.length +
    s.water.staleDue.length + 2 = n
  induction n generalizing s with
  | zero => exact hs
  | succ n ih =>
    unfold State.settleTimes
    split
    · exact hs
    · rename_i t ht; exact ih _ (h s t hs ht)

/-! ### The arbiters -/

/-- What the two arbiters leave alone. -/
structure ArbiterFrame (s t : State) : Prop where
  pending : t.pending = s.pending
  seconds : t.seconds = s.seconds
  freeCount : t.freeCount = s.freeCount
  stock : t.stock = s.stock
  plans : t.plans = s.plans
  cutting : t.cutting = s.cutting
  cost : t.cost = s.cost
  gate : t.gate = s.gate
  handler : t.handler = s.handler
  channels : t.water.channels = s.water.channels
  staleDue : t.water.staleDue = s.water.staleDue
  roster : t.line.roster = s.line.roster
  active : t.line.active = s.line.active
  pendingSet : t.line.pendingSet = s.line.pendingSet
  staleness : t.line.staleness = s.line.staleness
  passInterval : t.line.passInterval = s.line.passInterval
  receiving : t.line.receiving = s.line.receiving
  actions : t.alarms.actions = s.alarms.actions
  entries : t.alarms.entries = s.alarms.entries
  receiver : t.office.receiver = s.office.receiver
  received : t.office.received = s.office.received

theorem ArbiterFrame.rfl' (s : State) : ArbiterFrame s s := by constructor <;> rfl

theorem ArbiterFrame.trans {s t u : State} (h : ArbiterFrame s t) (k : ArbiterFrame t u) : ArbiterFrame s u := by
  constructor <;> first
    | exact k.pending.trans h.pending | exact k.seconds.trans h.seconds | exact k.freeCount.trans h.freeCount
    | exact k.stock.trans h.stock | exact k.plans.trans h.plans | exact k.cutting.trans h.cutting
    | exact k.cost.trans h.cost | exact k.gate.trans h.gate | exact k.handler.trans h.handler
    | exact k.channels.trans h.channels | exact k.staleDue.trans h.staleDue | exact k.roster.trans h.roster
    | exact k.active.trans h.active | exact k.pendingSet.trans h.pendingSet | exact k.staleness.trans h.staleness
    | exact k.passInterval.trans h.passInterval | exact k.receiving.trans h.receiving
    | exact k.actions.trans h.actions | exact k.entries.trans h.entries | exact k.receiver.trans h.receiver
    | exact k.received.trans h.received

theorem engineAdvance_frame (s : State) : ArbiterFrame s s.engineAdvance := by
  constructor <;> first
    | simp
    | (unfold State.engineAdvance; dsimp only; (repeat' split) <;>
        simp [State.setEngine, queueReport_actions, queueReport_entries])

theorem startDuePass_frame (s : State) : ArbiterFrame s s.startDuePass := by
  unfold State.startDuePass
  split <;> constructor <;> rfl

theorem commandFailed_frame (s : State) (c : Command) : ArbiterFrame s (s.commandFailed c) := by
  unfold State.commandFailed
  split <;> constructor <;> rfl

/-- The arbiter's move at the polls. -/
theorem grantPoll_frame {s t : State} {b : Bool} (h : s.grantPoll = some (t, b)) : ArbiterFrame s t := by
  unfold State.grantPoll at h
  dsimp only at h
  (repeat' split at h) <;> simp only [Option.some.injEq, Prod.mk.injEq, reduceCtorEq] at h <;> obtain ⟨rfl, -⟩ := h
  all_goals first
    | (constructor <;> rfl)
    | exact ArbiterFrame.trans (by constructor <;> rfl) (engineAdvance_frame _)

/-- One move of the arbiter of the floor line. -/
theorem grantStep_frame {s t : State} {b : Bool} (h : s.grantStep = some (t, b)) : ArbiterFrame s t := by
  unfold State.grantStep at h
  dsimp only at h
  (repeat' split at h) <;> first
    | exact (startDuePass_frame s).trans (grantPoll_frame h)
    | (simp only [Option.some.injEq, Prod.mk.injEq] at h
       obtain ⟨rfl, -⟩ := h
       first
         | (constructor <;> rfl)
         | exact ArbiterFrame.trans (by constructor <;> rfl) (commandFailed_frame _ _))

/-- The arbiter goes on to the polls with a queue and a broadcast that are empty; nothing due to a reader or a cutter goes
ahead of a pass whose time has come (R134). -/
theorem grantStep_of_polls {s : State} (hb : s.line.broadcast = none) (hq : s.line.queue = []) :
    s.grantStep = s.startDuePass.grantPoll := by
  simp [State.grantStep, hb, hq]

theorem grantTimes_frame (n : Nat) (s : State) : ArbiterFrame s (s.grantTimes n) := by
  induction n generalizing s with
  | zero => exact .rfl' s
  | succ n ih =>
    unfold State.grantTimes
    split
    · split
      · rename_i h; exact (grantStep_frame h).trans (ih _)
      · rename_i h; exact grantStep_frame h
      · exact .rfl' s
    · exact .rfl' s

theorem grant_frame (s : State) : ArbiterFrame s s.grant := grantTimes_frame _ s

/-- The arbiter of the floor line leaves the office port alone. -/
theorem grantPoll_office {s t : State} {b : Bool} (h : s.grantPoll = some (t, b)) : t.office = s.office := by
  unfold State.grantPoll at h
  dsimp only at h
  (repeat' split at h) <;> simp only [Option.some.injEq, Prod.mk.injEq, reduceCtorEq] at h <;> obtain ⟨rfl, -⟩ := h <;>
    simp

theorem grantStep_office {s t : State} {b : Bool} (h : s.grantStep = some (t, b)) : t.office = s.office := by
  unfold State.grantStep at h
  dsimp only at h
  (repeat' split at h) <;> first
    | exact (grantPoll_office h).trans (by simp)
    | (simp only [Option.some.injEq, Prod.mk.injEq] at h
       obtain ⟨rfl, -⟩ := h
       simp)

theorem grantTimes_office (n : Nat) (s : State) : (s.grantTimes n).office = s.office := by
  induction n generalizing s with
  | zero => rfl
  | succ n ih =>
    unfold State.grantTimes
    split
    · split
      · rename_i h; rw [ih, grantStep_office h]
      · rename_i h; exact grantStep_office h
      · rfl
    · rfl

@[simp] theorem grant_office (s : State) : s.grant.office = s.office := grantTimes_office _ s

/-- While the floor line is held, its arbiter does nothing. -/
theorem grant_of_held {s : State} (h : s.line.holder ≠ .free) : s.grant = s := by
  simp [State.grant, State.grantTimes, h]

theorem outputStart_frame (s : State) : ArbiterFrame s s.outputStart := by
  unfold State.outputStart
  (repeat' split) <;> constructor <;> rfl

theorem finish_frame (s : State) : ArbiterFrame s s.finish := (grant_frame s).trans (outputStart_frame _)

@[simp] theorem finish_pending (s : State) : s.finish.pending = s.pending := (finish_frame s).pending
@[simp] theorem finish_seconds (s : State) : s.finish.seconds = s.seconds := (finish_frame s).seconds
@[simp] theorem finish_freeCount (s : State) : s.finish.freeCount = s.freeCount := (finish_frame s).freeCount
@[simp] theorem finish_stock (s : State) : s.finish.stock = s.stock := (finish_frame s).stock
@[simp] theorem finish_plans (s : State) : s.finish.plans = s.plans := (finish_frame s).plans
@[simp] theorem finish_cutting (s : State) : s.finish.cutting = s.cutting := (finish_frame s).cutting
@[simp] theorem finish_cost (s : State) : s.finish.cost = s.cost := (finish_frame s).cost
@[simp] theorem finish_gate (s : State) : s.finish.gate = s.gate := (finish_frame s).gate
@[simp] theorem finish_handler (s : State) : s.finish.handler = s.handler := (finish_frame s).handler
@[simp] theorem finish_channels (s : State) : s.finish.water.channels = s.water.channels := (finish_frame s).channels
@[simp] theorem finish_staleDue (s : State) : s.finish.water.staleDue = s.water.staleDue := (finish_frame s).staleDue
@[simp] theorem finish_roster (s : State) : s.finish.line.roster = s.line.roster := (finish_frame s).roster
@[simp] theorem finish_active (s : State) : s.finish.line.active = s.line.active := (finish_frame s).active
@[simp] theorem finish_pendingSet (s : State) : s.finish.line.pendingSet = s.line.pendingSet := (finish_frame s).pendingSet
@[simp] theorem finish_staleness (s : State) : s.finish.line.staleness = s.line.staleness := (finish_frame s).staleness
@[simp] theorem finish_passInterval (s : State) : s.finish.line.passInterval = s.line.passInterval :=
  (finish_frame s).passInterval
@[simp] theorem finish_receiving (s : State) : s.finish.line.receiving = s.line.receiving := (finish_frame s).receiving
@[simp] theorem finish_actions (s : State) : s.finish.alarms.actions = s.alarms.actions := (finish_frame s).actions
@[simp] theorem finish_entries (s : State) : s.finish.alarms.entries = s.alarms.entries := (finish_frame s).entries
@[simp] theorem finish_receiver (s : State) : s.finish.office.receiver = s.office.receiver := (finish_frame s).receiver
@[simp] theorem finish_received (s : State) : s.finish.office.received = s.office.received := (finish_frame s).received

@[simp] theorem outputStart_line (s : State) : s.outputStart.line = s.line := by
  unfold State.outputStart; (repeat' split) <;> rfl
@[simp] theorem outputStart_water (s : State) : s.outputStart.water = s.water := by
  unfold State.outputStart; (repeat' split) <;> rfl

/-- With the office link busy, its arbiter does nothing. -/
theorem outputStart_of_busy {s : State} (h : s.office.sending.isSome = true) : s.outputStart = s := by
  unfold State.outputStart
  cases e : s.office.sending <;> simp_all

theorem finish_line_of_held {s : State} (h : s.line.holder ≠ .free) : s.finish.line = s.line := by
  simp [State.finish, grant_of_held h]
theorem finish_water_of_held {s : State} (h : s.line.holder ≠ .free) : s.finish.water = s.water := by
  simp [State.finish, grant_of_held h]
/-- With both links busy, the arbiters do nothing. -/
theorem finish_of_busy {s : State} (h : s.line.holder ≠ .free) (k : s.office.sending.isSome = true) : s.finish = s := by
  simp [State.finish, grant_of_held h, outputStart_of_busy k]

/-- The output arbiter keeps the REPLY frames on their way in their order (R160). -/
theorem outputStart_replies (s : State) :
    (s.outputStart.office.sending = s.office.sending ∧ s.outputStart.office.replies = s.office.replies) ∨
      (s.office.sending = none ∧ ∃ r, s.office.replies = r :: s.outputStart.office.replies ∧
        s.outputStart.office.sending = some (.reply r)) ∨
      (s.office.sending = none ∧ s.office.replies = [] ∧ s.outputStart.office.replies = [] ∧
        ∃ b, s.outputStart.office.sending = some (.report b)) := by
  unfold State.outputStart
  (repeat' split) <;> simp_all [State.setOffice]

/-! ### Items -/

@[simp] theorem answerItem_of_taken (s : State) (h : InHand) (rest : List RawItem) (code : ResultCode) (d : List Byte)
    (hc : code.isTaken = true) (hr : rest ≠ []) :
    s.answerItem h rest ⟨code, d⟩ =
      s.setHandler { s.handler with inHand := some { h with items := rest, results := h.results ++ [⟨code, d⟩] } } := by
  cases rest <;> simp_all [State.answerItem]

/-- The last item of a frame, or a refused one, ends the frame (R151). -/
theorem answerItem_ends (s : State) (h : InHand) (rest : List RawItem) (r : Result)
    (hc : r.code.isTaken = false ∨ rest = []) :
    s.answerItem h rest r = s.endFrame h.origin h.tag (h.results ++ r :: rest.map fun _ => ⟨.notTaken, []⟩) := by
  rcases hc with hc | hc <;> simp [State.answerItem, hc]

/-- What an item does, once it stands next: it is denied, or its owner decides (R151, R153). -/
theorem itemStep_standing {s : State} {i : Instr} {h : InHand} {o : Origin} (area : Area)
    (owner : Origin → State → Owned) (hq : s.quiet = true) (hh : s.handler.inHand = some h)
    (hi : h.items.head?.bind decodeItem = some i) (ho : s.origin? h.origin = some o) :
    s.itemStep i area owner =
      (if o.maySend s.handler.openLevel area = true then
        match owner o s with
        | .taken code data t => t.answerItem h h.items.tail ⟨code, data⟩
        | .refused code => s.answerItem h h.items.tail ⟨code, []⟩
      else s.answerItem h h.items.tail ⟨.denied, []⟩).finish := by
  unfold State.itemStep
  rw [settle_of_quiet hq]
  dsimp only
  rw [hh]
  obtain ⟨og, tag, items, results⟩ := h
  cases items with
  | nil => simp at hi
  | cons raw rest =>
    simp only [List.head?_cons, Option.bind_some] at hi
    dsimp only
    rw [if_pos hi]
    unfold State.takeItem
    rw [ho]
    dsimp only
    by_cases hm : o.maySend s.handler.openLevel area = true
    · rw [if_pos hm, if_pos hm]
      cases owner o s <;> rfl
    · rw [if_neg hm, if_neg hm]
      rfl

/-- An item of an undefined origin is denied (R153). -/
theorem itemStep_undefined {s : State} {i : Instr} {h : InHand} (area : Area) (owner : Origin → State → Owned)
    (hq : s.quiet = true) (hh : s.handler.inHand = some h) (hi : h.items.head?.bind decodeItem = some i)
    (ho : s.origin? h.origin = none) :
    s.itemStep i area owner = (s.answerItem h h.items.tail ⟨.denied, []⟩).finish := by
  unfold State.itemStep
  rw [settle_of_quiet hq]
  dsimp only
  rw [hh]
  obtain ⟨og, tag, items, results⟩ := h
  cases items with
  | nil => simp at hi
  | cons raw rest =>
    simp only [List.head?_cons, Option.bind_some] at hi
    simp [hi, State.takeItem, ho]

/-- An item that does not stand next does nothing (log entry 1). -/
theorem itemStep_other {s : State} {i : Instr} (area : Area) (owner : Origin → State → Owned) (hq : s.quiet = true)
    (hi : ∀ h, s.handler.inHand = some h → h.items.head?.bind decodeItem ≠ some i) :
    s.itemStep i area owner = s.finish := by
  unfold State.itemStep
  rw [settle_of_quiet hq]
  dsimp only
  cases hh : s.handler.inHand with
  | none => rfl
  | some h =>
    have := hi h hh
    obtain ⟨og, tag, items, results⟩ := h
    cases items with
    | nil => rfl
    | cons raw rest =>
      simp only [List.head?_cons, Option.bind_some] at this
      simp [this]

/-! ### Checks -/

@[simp] theorem ensure_true (c : ResultCode) (k : Owned) : ensure true c k = k := rfl
@[simp] theorem ensure_false (c : ResultCode) (k : Owned) : ensure false c k = .refused c := rfl
@[simp] theorem need_some {α : Type} (a : α) (c : ResultCode) (k : α → Owned) : need (some a) c k = k a := rfl
@[simp] theorem need_none {α : Type} (c : ResultCode) (k : α → Owned) : need none c k = .refused c := rfl

/-- A check that is taken holds. -/
theorem ensure_taken {b : Bool} {c code : ResultCode} {k : Owned} {d : List Byte} {t : State}
    (h : ensure b c k = .taken code d t) : b = true ∧ k = .taken code d t := by
  cases b <;> simp_all [ensure]

end Sys2Proof.Machine
end

