-- ==== Sys2Proof/Laws/Answers.lean ====
section
/-! SUPPORT. An item that stands next: how its step is read off its owner, what its result does to the frame, and which
parts of the state the arbiters leave as the owner left them. -/

namespace Sys2Proof.Machine

/-- The step of an item that stands next and may be sent: its owner decides. -/
theorem itemStep_ready {s : State} {i : Instr} {area : Area} {h : InHand} {rest : List RawItem} {o : Origin}
    (owner : Origin → State → Owned) (hr : Ready s i area h rest o) :
    s.itemStep i area owner =
      match owner o s with
      | .taken code data t => replied t h rest code data
      | .refused code => replied s h rest code [] := by
  obtain ⟨⟨hq, hh, hi, ht, ho⟩, hm⟩ := hr
  rw [itemStep_standing area owner hq hh hi ho, if_pos hm, ht]
  cases owner o s <;> rfl

theorem itemStep_taken {s t : State} {i : Instr} {area : Area} {h : InHand} {rest : List RawItem} {o : Origin}
    {code : ResultCode} {data : List Byte} {owner : Origin → State → Owned} (hr : Ready s i area h rest o)
    (e : owner o s = .taken code data t) : s.itemStep i area owner = replied t h rest code data := by
  rw [itemStep_ready owner hr, e]

theorem itemStep_refused {s : State} {i : Instr} {area : Area} {h : InHand} {rest : List RawItem} {o : Origin}
    {code : ResultCode} {owner : Origin → State → Owned} (hr : Ready s i area h rest o)
    (e : owner o s = .refused code) : s.itemStep i area owner = replied s h rest code [] := by
  rw [itemStep_ready owner hr, e]

/-! ### What answering leaves alone -/

theorem answerItem_same (s : State) (h : InHand) (rest : List RawItem) (r : Result) :
    (s.answerItem h rest r).pending = s.pending ∧ (s.answerItem h rest r).seconds = s.seconds ∧
      (s.answerItem h rest r).freeCount = s.freeCount ∧ (s.answerItem h rest r).stock = s.stock ∧
      (s.answerItem h rest r).plans = s.plans ∧ (s.answerItem h rest r).cutting = s.cutting ∧
      (s.answerItem h rest r).cost = s.cost ∧ (s.answerItem h rest r).water = s.water ∧
      (s.answerItem h rest r).gate = s.gate ∧ (s.answerItem h rest r).line = s.line ∧
      (s.answerItem h rest r).alarms = s.alarms ∧ (s.answerItem h rest r).office.receiver = s.office.receiver ∧
      (s.answerItem h rest r).office.received = s.office.received ∧
      (s.answerItem h rest r).office.sending = s.office.sending ∧
      (s.answerItem h rest r).handler.origins = s.handler.origins ∧
      (s.answerItem h rest r).handler.openLevel = s.handler.openLevel := by
  unfold State.answerItem
  split <;> simp [State.endFrame]

variable (s : State) (h : InHand) (rest : List RawItem) (c : ResultCode) (d : List Byte)

@[simp] theorem replied_pending : (replied s h rest c d).pending = s.pending := by
  simp [replied, (answerItem_same s h rest ⟨c, d⟩).1]
@[simp] theorem replied_seconds : (replied s h rest c d).seconds = s.seconds := by
  simp [replied, answerItem_same s h rest ⟨c, d⟩]
@[simp] theorem replied_freeCount : (replied s h rest c d).freeCount = s.freeCount := by
  simp [replied, answerItem_same s h rest ⟨c, d⟩]
@[simp] theorem replied_stock : (replied s h rest c d).stock = s.stock := by
  simp [replied, answerItem_same s h rest ⟨c, d⟩]
@[simp] theorem replied_plans : (replied s h rest c d).plans = s.plans := by
  simp [replied, answerItem_same s h rest ⟨c, d⟩]
@[simp] theorem replied_cutting : (replied s h rest c d).cutting = s.cutting := by
  simp [replied, answerItem_same s h rest ⟨c, d⟩]
@[simp] theorem replied_cost : (replied s h rest c d).cost = s.cost := by
  simp [replied, answerItem_same s h rest ⟨c, d⟩]
@[simp] theorem replied_gate : (replied s h rest c d).gate = s.gate := by
  simp [replied, answerItem_same s h rest ⟨c, d⟩]
@[simp] theorem replied_channels : (replied s h rest c d).water.channels = s.water.channels := by
  simp [replied, answerItem_same s h rest ⟨c, d⟩]
@[simp] theorem replied_roster : (replied s h rest c d).line.roster = s.line.roster := by
  simp [replied, answerItem_same s h rest ⟨c, d⟩]
@[simp] theorem replied_active : (replied s h rest c d).line.active = s.line.active := by
  simp [replied, answerItem_same s h rest ⟨c, d⟩]
@[simp] theorem replied_pendingSet : (replied s h rest c d).line.pendingSet = s.line.pendingSet := by
  simp [replied, answerItem_same s h rest ⟨c, d⟩]
@[simp] theorem replied_staleness : (replied s h rest c d).line.staleness = s.line.staleness := by
  simp [replied, answerItem_same s h rest ⟨c, d⟩]
@[simp] theorem replied_passInterval : (replied s h rest c d).line.passInterval = s.line.passInterval := by
  simp [replied, answerItem_same s h rest ⟨c, d⟩]
@[simp] theorem replied_actions : (replied s h rest c d).alarms.actions = s.alarms.actions := by
  simp [replied, answerItem_same s h rest ⟨c, d⟩]
@[simp] theorem replied_entries : (replied s h rest c d).alarms.entries = s.alarms.entries := by
  simp [replied, answerItem_same s h rest ⟨c, d⟩]
@[simp] theorem replied_origins : (replied s h rest c d).handler.origins = s.handler.origins := by
  simp [replied, answerItem_same s h rest ⟨c, d⟩]
@[simp] theorem replied_openLevel : (replied s h rest c d).handler.openLevel = s.handler.openLevel := by
  simp [replied, answerItem_same s h rest ⟨c, d⟩]
@[simp] theorem replied_receiver : (replied s h rest c d).office.receiver = s.office.receiver := by
  simp [replied, answerItem_same s h rest ⟨c, d⟩]
@[simp] theorem replied_received : (replied s h rest c d).office.received = s.office.received := by
  simp [replied, answerItem_same s h rest ⟨c, d⟩]

@[simp] theorem replied_slab? (id : Nat) : (replied s h rest c d).slab? id = s.slab? id := by simp [State.slab?]
@[simp] theorem replied_plan? (id : Nat) : (replied s h rest c d).plan? id = s.plan? id := by simp [State.plan?]
@[simp] theorem replied_cutter? (n : Nat) : (replied s h rest c d).cutter? n = s.cutter? n := by simp [State.cutter?]
@[simp] theorem replied_record? (n : Nat) : (replied s h rest c d).record? n = s.record? n := by simp [State.record?]
@[simp] theorem replied_job (n : Nat) : (replied s h rest c d).job n = s.job n := by simp [State.job]
@[simp] theorem replied_channel? (n : Nat) : (replied s h rest c d).channel? n = s.channel? n := by simp [State.channel?]
@[simp] theorem replied_station? (n : Nat) : (replied s h rest c d).station? n = s.station? n := by simp [State.station?]
@[simp] theorem replied_origin? (n : Nat) : (replied s h rest c d).origin? n = s.origin? n := by simp [State.origin?]

variable {s h rest c d}

theorem replied_line_of_held (hl : s.line.holder ≠ .free) : (replied s h rest c d).line = s.line := by
  have e := (answerItem_same s h rest ⟨c, d⟩).2.2.2.2.2.2.2.2.2.1
  rw [replied, finish_line_of_held (by rw [e]; exact hl), e]

theorem replied_water_of_held (hl : s.line.holder ≠ .free) : (replied s h rest c d).water = s.water := by
  have e := answerItem_same s h rest ⟨c, d⟩
  rw [replied, finish_water_of_held (by rw [e.2.2.2.2.2.2.2.2.2.1]; exact hl), e.2.2.2.2.2.2.2.1]

theorem replied_alarms_of_busy (hl : s.line.holder ≠ .free) (ho : s.office.sending.isSome = true) :
    (replied s h rest c d).alarms = s.alarms := by
  have e := answerItem_same s h rest ⟨c, d⟩
  rw [replied, finish_of_busy (by rw [e.2.2.2.2.2.2.2.2.2.1]; exact hl)
    (by rw [e.2.2.2.2.2.2.2.2.2.2.2.2.2.1]; exact ho), e.2.2.2.2.2.2.2.2.2.2.1]

/-! ### Results -/

/-- The REPLY frames on their way keep their order through the output arbiter (R160). -/
theorem outgoing_finish (s : State) : outgoing s.finish.office = outgoing s.office := by
  rw [State.finish, ← grant_office s]
  rcases outputStart_replies s.grant with ⟨h1, h2⟩ | ⟨h1, r, h2, h3⟩ | ⟨h1, h2, h3, b, h4⟩ <;>
    simp_all [outgoing]

/-- Answering an item writes its result (R151, R158): `after` is what the item leaves, with the office port as it was. -/
theorem answered_replied {s after : State} {h : InHand} {rest : List RawItem} {c : ResultCode} {d : List Byte}
    (ho : after.office = s.office) : Answered s (replied after h rest c d) h rest ⟨c, d⟩ := by
  constructor
  · rintro ⟨hc, hr⟩
    constructor
    · simp [replied, answerItem_of_taken after h rest c d hc hr]
    · rw [replied, outgoing_finish, answerItem_of_taken after h rest c d hc hr]
      simp [ho]
  · intro hc
    rw [replied, answerItem_ends after h rest ⟨c, d⟩ hc]
    constructor
    · simp [State.endFrame]
    · rw [outgoing_finish]
      simp [State.endFrame, outgoing, ho, List.append_assoc]

/-- The parts that an item leaves as they were are as they were after its answer too: the arbiters touch only what goes on
at links that are free. -/
theorem unchanged_replied {s after : State} {h : InHand} {rest : List RawItem} {c : ResultCode} {d : List Byte}
    {but : List Part} (hu : Unchanged but s after) (ho : after.office = s.office)
    (hf : Part.floor ∉ but ∨ Part.reports ∈ but) : Unchanged but s (replied after h rest c d) := by
  intro p hp
  have hs := hu p hp
  cases p <;> simp only [Part.same] at hs ⊢
  case floor =>
    intro hl
    obtain ⟨h1, h2⟩ := hs hl
    have hl' : after.line.holder ≠ .free := by rw [h1]; exact hl
    rw [replied_line_of_held hl', replied_water_of_held hl']
    exact ⟨h1, h2⟩
  case reports =>
    intro hl hb
    obtain ⟨h1, h2⟩ := hs hl hb
    have hl' : after.line.holder ≠ .free := by
      rcases hf with hf | hf
      · have := hu .floor hf
        simp only [Part.same] at this
        rw [(this hl).1]; exact hl
      · exact absurd hf hp
    rw [replied_alarms_of_busy hl' (by rw [ho]; exact hb)]
    exact ⟨h1, h2⟩
  all_goals simp_all

theorem Unchanged.rfl' {but : List Part} (s : State) : Unchanged but s s := by
  intro p _
  cases p <;> simp [Part.same]

end Sys2Proof.Machine
end

