-- ==== Sys2Proof/Tests/Slice0.lean ====
section
/-! SUPPORT. Tests: ill-formed commands refused, items and frames written out byte by byte from the layouts of spec/10,
worked examples of the spec, and for each statement with hypotheses a concrete state that meets them. -/

namespace Sys2Proof.Tests

open Sys2Proof Sys2Proof.Machine

-- The witnesses are evaluated one after another: many evaluations at once need more threads than a small machine has.
set_option Elab.async false

/-! ### Well-formedness: each check refuses an ill-formed command -/

theorem test_wf_one_byte : Instr.wf (.cutTimeout 256) = false := by decide
theorem test_wf_start_failure : Instr.wf (.startFailure 1 256) = false := by decide
theorem test_wf_header : Instr.wf (.officeHeaderArrived [1#8]) = false := by decide
theorem test_wf_optional_byte : Instr.wf (.useJob (some 256)) = false := by decide
theorem test_wf_optional_slab : Instr.wf (.useSlab (some 4294967296)) = false := by decide
theorem test_wf_price : Instr.wf (.price none 4294967296 none) = false := by decide
theorem test_wf_reserve : Instr.wf (.reserve none (some 256)) = false := by decide
theorem test_wf_find_remnant : Instr.wf (.findRemnant 65536 1 none) = false := by decide
theorem test_wf_remnant_limits : Instr.wf (.remnantLimits 300 65536) = false := by decide
theorem test_wf_plan_load : Instr.wf (.planLoad none 4 [⟨1, 1, 0, 0, 1, 65536, 0⟩]) = false := by decide
theorem test_wf_skip : Instr.wf (.skip none 256) = false := by decide
theorem test_wf_verdict : Instr.wf (.verdict none 1 256) = false := by decide
theorem test_wf_load : Instr.wf (.load none (some 256) none) = false := by decide
theorem test_wf_cut : Instr.wf (.cut 256 none none none) = false := by decide
theorem test_wf_scan_list : Instr.wf (.scanList [0, 256]) = false := by decide
theorem test_wf_scan_start : Instr.wf (.scanStart 256 none) = false := by decide
theorem test_wf_channel_limits : Instr.wf (.channelLimits 0 (some 65536) none) = false := by decide
theorem test_wf_water_roles : Instr.wf (.waterRoles none none none (some 256)) = false := by decide
theorem test_wf_water_marks : Instr.wf (.waterMarks 0 0 0 0 65536) = false := by decide
theorem test_wf_job_quote : Instr.wf (.jobQuote none (some 4294967296)) = false := by decide
theorem test_wf_shop_rates : Instr.wf (.shopRates 4294967296 0) = false := by decide
theorem test_wf_station : Instr.wf (.station 1 256) = false := by decide
theorem test_wf_line_settings : Instr.wf (.lineSettings 20 256 1 10 2) = false := by decide
theorem test_wf_cutter : Instr.wf (.cutter 1 1 1 4 3 65536 0 0 30 0 0 1) = false := by decide
theorem test_wf_channel : Instr.wf (.channel 0 5 256 1 none none) = false := by decide
theorem test_wf_alarm_action : Instr.wf (.alarmAction 1 256 1) = false := by decide
theorem test_wf_origin : Instr.wf (.origin 1 0 256) = false := by decide
theorem test_wf_completion : Instr.wf (.completionAnswer 1 0 1 1 4 0 0 0 0 []) = false := by decide
theorem test_wf_scan_answer : Instr.wf (.scanAnswer 1 1 1 1 1 1 [⟨65536, 0, 0, 0⟩]) = false := by decide
theorem test_wf_value : Instr.wf (.valueAnswer 1 0 true 65536) = false := by decide

/-! ### Bytes written out from the layouts (spec/10) -/

/-- R180: the check over the characters 1 to 9. -/
theorem test_crc_of_digits :
    crc16 [49#8, 50#8, 51#8, 52#8, 53#8, 54#8, 55#8, 56#8, 57#8] = 10673 := by decide +kernel
/-- CONTEXT: USE CUTTER 2. -/
theorem test_decode_use_cutter : decodeItem ⟨2#8, 1#8, [2#8]⟩ = some (.useCutter (some 2)) := by decide +kernel
/-- WORK: CUT 4 with slab, cutter and job from the context (10, worked example). -/
theorem test_decode_cut : decodeItem ⟨50#8, 0#8, [4#8]⟩ = some (.cut 4 none none none) := by decide +kernel
/-- STOCK: PRICE 117,204,886 at 24,000 with lot 14. -/
theorem test_decode_price :
    decodeItem ⟨17#8, 3#8, [6#8, 252#8, 103#8, 150#8, 0#8, 0#8, 93#8, 192#8, 14#8]⟩ =
      some (.price (some 117204886) 24000 (some 14)) := by decide +kernel
/-- PLAN: VERDICT on step 3, ruling 2. -/
theorem test_decode_verdict : decodeItem ⟨36#8, 0#8, [3#8, 2#8]⟩ = some (.verdict none 3 2) := by decide +kernel
/-- WATER: SCAN START 1 with channel 4. -/
theorem test_decode_scan_start : decodeItem ⟨66#8, 1#8, [1#8, 4#8]⟩ = some (.scanStart 1 (some 4)) := by decide +kernel
/-- JOB: JOB OPEN 21 with quote 40,000. -/
theorem test_decode_job_open :
    decodeItem ⟨81#8, 3#8, [21#8, 0#8, 0#8, 156#8, 64#8]⟩ = some (.jobOpen (some 21) (some 40000)) := by decide +kernel
/-- TABLE: STATION 7 with the remove mark. -/
theorem test_decode_station_remove : decodeItem ⟨97#8, 128#8, [7#8]⟩ = some (.stationRemove 7) := by decide +kernel
/-- READ: READ JOB has code 117. -/
theorem test_decode_read_job : decodeItem ⟨117#8, 1#8, [12#8]⟩ = some (.readJob (some 12)) := by decide +kernel
/-- ALARM: TAKE ALARM. -/
theorem test_decode_take_alarm : decodeItem ⟨129#8, 0#8, []⟩ = some .takeAlarm := by decide +kernel
/-- A presence bit that no operand has, and a code that no item has. -/
theorem test_decode_bad_items :
    decodeItem ⟨50#8, 8#8, [4#8]⟩ = none ∧ decodeItem ⟨5#8, 0#8, []⟩ = none ∧ decodeItem ⟨50#8, 0#8, [4#8, 0#8]⟩ = none := by
  decide +kernel
/-- The worked example of 10: the header and body of origin 6's REQUEST with tag 731, with the check of R180. -/
theorem test_decode_request :
    let header := [1#8, 6#8, 2#8, 219#8, 2#8, 0#8, 10#8]
    let body := [2#8, 1#8, 0#8, 1#8, 2#8, 50#8, 0#8, 0#8, 1#8, 4#8]
    decodeRequest header (body ++ be2 (crc16 (header ++ body))) =
      some (6, 731, [⟨2#8, 1#8, [2#8]⟩, ⟨50#8, 0#8, [4#8]⟩]) := by decide +kernel
/-- A COMPLETION from station 6 (10): cut 9 of slab 2, step 1, DONE, 1 piece, 3,200 mm, 258 s, 60 L, one length of 600 mm. -/
theorem test_decode_completion :
    let f := [6#8, 5#8, 18#8, 1#8, 9#8, 0#8, 0#8, 0#8, 2#8, 1#8, 1#8, 1#8, 12#8, 128#8, 1#8, 2#8, 0#8, 60#8, 1#8, 2#8, 88#8]
    decodeFloorFrame (f ++ be2 (crc16 f)) = .completionAnswer 6 9 2 1 1 1 3200 258 60 [600] := by decide +kernel
/-- A VALUE from station 5: index 1, valid, 4,700. -/
theorem test_decode_value :
    let f := [5#8, 5#8, 5#8, 3#8, 1#8, 1#8, 18#8, 92#8]
    decodeFloorFrame (f ++ be2 (crc16 f)) = .valueAnswer 5 1 true 4700 := by decide +kernel

/-- R20, R179: a RIP of 600 mm that opens strip 1: number, kind, job, the width behind its presence byte, the strip. -/
theorem test_step_bytes_rip :
    (Step.bytes ⟨1, 21, 1, .rip 600, .pending, false, 0, [], none⟩).take 7 =
      [1#8, 1#8, 21#8, 1#8, 2#8, 88#8, 1#8] := by decide +kernel
/-- R175: the WATER reports: hold on by the office alone, each source behind its presence byte; sweep finished. -/
theorem test_water_report_bytes :
    (ReportBody.water (.hold true false false true)).bytes = [1#8, 1#8, 0#8, 1#8, 0#8, 1#8, 1#8] ∧
      (ReportBody.water .sweepFinished).bytes = [3#8, 0#8, 0#8, 0#8] := by decide +kernel

/-! ### Worked examples -/

/-- R122, R123 (11, the second rip on the waiting list): D 2,000, R 300, T 260 drop 737 L. -/
theorem test_drop : dropOf 2000 300 260 = 737 := by decide
/-- R60 (11): 3,200 mm at 800 mm/min with 20 s of overhead is 260 s. -/
theorem test_expected_time : expectedTime ⟨4, 2, 800, 1100, 20, 600, 7200, 1000, 50000000⟩ 3200 = 260 := by decide
/-- R83 to R86 (11, the first rip): 256, 70, 7 and 516 cents. -/
theorem test_charges_first_rip :
    materialCharge 12800 20000 = 256 ∧ toolCharge 3200 22 1000 = 70 ∧ waterCharge 60 120 = 7 ∧
      timeCharge 258 7200 = 516 := by decide
/-- R46 (11): 5,003,200 mm² of 50,000,000 is GOOD, 4,932,800 is LOW. -/
theorem test_tool_state :
    toolStateOf 5003200 50000000 = .good ∧ toolStateOf 4932800 50000000 = .low ∧ toolStateOf 0 50000000 = .worn := by
  decide
/-- R167: after power-on HOLD_UNACKED has priority 7, and CUT_TIMEOUT stops its cutter. -/
theorem test_alarm_defaults :
    (State.reset.alarms.entryOf .holdUnacked).priority = 7 ∧ State.reset.alarms.actionOf .cutTimeout = .cutterStop := by
  decide

/-- The worked plan of 11: RIP 600, CROSS 1,800 and 1,396 from strip 1, RIP 500, SERIES of three 700 from strip 2, on a slab
of 3,200 by 1,500 with one flaw. -/
def workedSteps : List Step :=
  [⟨1, 21, 1, .rip 600, .pending, false, 0, [], none⟩, ⟨2, 21, 1, .cross .near 1800 101, .pending, false, 0, [], none⟩,
   ⟨3, 21, 1, .cross .far 1396 102, .pending, false, 0, [], none⟩, ⟨4, 21, 2, .rip 500, .pending, false, 0, [], none⟩,
   ⟨5, 21, 2, .series .near 700 3 103, .pending, false, 0, [], none⟩]

/-- R26, R27 (11, the plan and its flagged step): step 3 alone is FLAGGED, the others are PENDING. -/
theorem test_projection_states :
    (projectSteps 3200 4 [⟨2000, 2300, 300, 500⟩] ⟨0, 1500, []⟩ workedSteps).map Step.state =
      [.pending, .pending, .flagged, .pending, .pending] := by decide +kernel
/-- R25 (11): step 3 would take x 1,804 to 3,200 of strip 1; the third piece of step 5 ends at x 2,108. -/
theorem test_projection_geometry :
    ((projectSteps 3200 4 [⟨2000, 2300, 300, 500⟩] ⟨0, 1500, []⟩ workedSteps).map Step.planned)[2]? =
        some (some [⟨1804, 3200, 0, 600⟩]) ∧
      ((projectSteps 3200 4 [] ⟨0, 1500, []⟩ workedSteps).map Step.planned)[4]? =
        some (some [⟨0, 700, 604, 1104⟩, ⟨704, 1404, 604, 1104⟩, ⟨1408, 2108, 604, 1104⟩]) := by decide +kernel
/-- R32 (11, record 10): 1,806 mm measured of 3,200 stores 1,806 with a kerf of 4, out of the tolerance of 2 mm. -/
theorem test_apply_measured :
    (applyPieces 3200 4 2 [] ⟨2, 21, 1, .cross .near 1800 101, .issued, false, 0, [], none⟩ 1 [1806]
        ⟨604, 896, [⟨1, 0, 600, 0, 3200⟩]⟩) =
      (⟨604, 896, [⟨1, 0, 600, 1810, 3200⟩]⟩, [⟨⟨1806, false, true⟩, 4⟩]) := by decide +kernel

/-! ### A small shop -/

/-- Origin 0 as power-on leaves it. -/
abbrev o0 : Origin := { number := 0, cls := 0, areas := 255#8, ctx := ⟨none, none, none⟩ }
/-- A frame of origin 0 with one item. -/
def hand (i : Instr) : InHand := { origin := 0, tag := 7, items := (encodeItem i).toList, results := [] }
/-- The item stands next in a frame of its own. -/
def before (i : Instr) (s : State) : State := { s with handler := { s.handler with inHand := some (hand i) } }
/-- The item stands next and may be sent. -/
abbrev ReadyAt (i : Instr) (a : Area) (s : State) : Prop := Ready (before i s) i a (hand i) [] o0

def slab (id : Nat) (basis : Option Nat) (state : SlabState) : Slab :=
  { id := id, lot := 3, length := 3000, width := 1800, thickness := 30, basis := basis, state := state, remnant := none,
    zones := [], geom := { y0 := 0, wr := 1800, strips := [] } }
def remnant (id : Nat) : Slab := { slab id (some 9000) .stocked with remnant := some ⟨11, 1⟩ }
abbrev settings : CutterSettings := ⟨4, 3, 500, 20, 10, 60, 100, 100, 600000⟩
def saw (state : CutterState) (on : Option Nat) (slots : List Nat) : Cutter :=
  { number := 1, address := 1, kind := .blade, settings := settings, life := 600000, state := state, slab := on,
    slots := slots, holdMark := false, lastTaken := none, uncertain := [] }
def jet : Cutter := { saw .idle none [] with number := 8, address := 2, kind := .jet }
def rip (state : StepState) : Step := ⟨1, 1, 1, .rip 600, state, false, 0, [], some [⟨0, 3000, 0, 600⟩]⟩
def plan (state : StepState) : Plan := { slab := 11, loadKerf := 4, steps := [rip state] }
def record (state : RecordState) : CutRecord :=
  { id := 0, state := state, onCutter := 1, slab := 11, number := 1, job := 1, stepKind := .rip, cutterKind := .blade,
    strip := 0, side := none, length := 600, stripWidth := 0, pieces := [⟨0, 600, 0⟩], travel := 3000, expected := 370,
    abortFlag := false, timer := 0 }
def station (a : Nat) (k : StationKind) : Station :=
  { address := a, kind := k, link := .up, failures := 0, nextPoll := if k = .reader then some 1 else none }
def chan (n : Nat) (k : ChannelKind) : Channel :=
  { number := n, address := 24, index := n, kind := k, low := none, high := none, reading := none, compare := .none,
    stale := true, fault := false }

/-- The shop: slabs 11 (with the state given), 12 and remnant 4,000,000,000, a saw and a jet, a reader, a node with three
channels, job 1 OPEN. -/
def shop (state : SlabState) (c : Cutter) (plans : List Plan) (records : List CutRecord) : State :=
  { State.reset with
    stock := { State.reset.stock with
      slabs := [slab 11 (some 9000) state, slab 12 none .stocked, remnant 4000000000], recency := [4000000000] }
    plans := { plans := plans, tolerance := 2 }
    cutting := { cutters := [c, jet], records := records, lastId := 15 }
    cost := { State.reset.cost with jobs := put Job.number (Job.fresh 1 .opened) State.reset.cost.jobs }
    water := { State.reset.water with channels := [chan 0 .level, chan 1 .turbidity, chan 2 .flow] }
    line := { State.reset.line with
      roster := [station 1 .cutter, station 2 .cutter, station 4 .reader, station 24 .node] } }

/-- The shop with nothing on its beds. -/
def quietShop : State := shop .stocked (saw .idle none []) [] []
/-- Slab 11 on the saw's bed with a plan of one RIP. -/
def bedShop (st : StepState) (c : Cutter) (records : List CutRecord) : State := shop (.onBed 1 1) c [plan st] records

/-- A state whose floor line is held by a transaction. -/
def held (s : State) (kind : TxKind) (a : Nat) (phase : TxPhase) (receiving : Option Bool) : State :=
  { s with line := { s.line with
      holder := .tx { kind := kind, address := a, phase := phase }, receiving := receiving } }
/-- A state whose scan engine stands as given. -/
def scanning (s : State) (e : Engine) : State := { s with water := { s.water with engine := e } }

/-! ### For each statement, a state and operands that meet its hypotheses -/

theorem witness_StepRunsTheFrontCommand :
    ({ State.reset with pending := [.takeAlarm, .powerOn] } : State).pending = .takeAlarm :: [.powerOn] := by decide

theorem witness_SecondCountsAndEvaluates :
    let s : State := { bedShop .issued (saw .working (some 11) [0]) [record .executing] with seconds := 4294967295 }
    s.quiet = true ∧ s.record? 0 = some (record .executing) ∧ s.record? 1 = none ∧ s.channel? 0 = some (chan 0 .level) ∧
      s.channel? 15 = none := by decide +kernel

theorem witness_TimeoutEndsItsRecord :
    let r := { record .executing with timer := 60 }
    let s := bedShop .issued (saw .working (some 11) [0]) [r]
    s.record? 0 = some r ∧ r.state = .executing ∧ s.cutter? r.onCutter = some (saw .working (some 11) [0]) ∧
      (saw .working (some 11) [0]).settings.limit ≤ r.timer := by decide +kernel

theorem witness_StaleEpisodeBegins :
    let ch := { chan 0 .level with stale := false, reading := some ⟨50, 0⟩ }
    let s : State := { quietShop with seconds := 11, water := { quietShop.water with channels := [ch], staleDue := [0] } }
    0 ∈ s.water.staleDue ∧ s.channel? 0 = some ch ∧ ch.stale = false ∧
      ch.staleAt s.seconds s.line.staleness = true := by decide +kernel

/-- The engine of a CONTINUOUS run that rests between passes. -/
def resting : Engine :=
  { mode := some .continuous, scanList := [0, 1], single := none, position := some 1, run := 1, inFlight := none,
    lastPassEnd := some 5, due := false }
theorem witness_DuePollsAreMade_pass :
    let s : State := { scanning quietShop resting with seconds := 7 }
    s.water.engine = resting ∧ resting.mode = some .continuous ∧ resting.due = false ∧ resting.position = some 1 ∧
      resting.flightIsCurrent = false ∧ resting.lastPassEnd = some 5 ∧
      reached s.seconds (secondsAfter 5 s.line.passInterval) = true := by decide +kernel
theorem witness_DuePollsAreMade_reader :
    let s : State := { quietShop with seconds := 1 }
    s.readerDue 4 = true ∧ s.line.holder = .free ∧ s.line.broadcast = none ∧ s.line.queue = [] ∧
      s.water.engine.due = false ∧ s.passDue = false ∧ s.nextRotation = some 4 := by decide +kernel
theorem witness_DuePollsAreMade_pass_first :
    let s : State := { scanning quietShop resting with seconds := 7 }
    s.readerDue 4 = true ∧ s.line.holder = .free ∧ s.line.broadcast = none ∧ s.line.queue = [] ∧ s.passDue = true := by
  decide +kernel
/-- What a command answers, in the tests that look into it. -/
def nextOf (o : Host.Outcome State Fault Refusal) : State :=
  match o with
  | .next t => t
  | .fault _ | .refused _ => State.reset
/-- R134: on a free line a stale channel's step hands the line to the pass that has come due, not to the reader. -/
theorem test_due_pass_before_reader :
    let s : State := { scanning quietShop resting with seconds := 7 }
    let u : State := { s with water := { s.water with staleDue := [1] } }
    (nextOf (exec (.channelEntersStale 1) u)).line.holder =
      .tx { kind := .scanPoll 0 0 1, address := 24, phase := .sending } := by decide +kernel

/-- The shop with one report of the line port standing. -/
def reported (s : State) (r : LineReport) : State := { s with line := { s.line with reports := [r] } }
theorem witness_LinePortReportsAreTaken_start :
    let s := reported (bedShop .issued (saw .working (some 11) [0]) [record .sent]) (.startFailed 1 0)
    LineReport.startFailed 1 0 ∈ s.line.reports ∧ s.record? 0 = some (record .sent) ∧ (record .sent).onCutter = 1 ∧
      (record .sent).state = .sent ∧ s.cutter? 1 = some (saw .working (some 11) [0]) ∧
      (saw .working (some 11) [0]).state ≠ .faulted := by decide +kernel
theorem witness_LinePortReportsAreTaken_abort :
    LineReport.abortFailed 1 ∈ (reported quietShop (.abortFailed 1)).line.reports := by decide +kernel
theorem witness_LinePortReportsAreTaken_unreachable :
    let s := reported (bedShop .issued (saw .working (some 11) [0]) [record .sent]) (.unreachable 1)
    LineReport.unreachable 1 ∈ s.line.reports ∧ s.cutter? 1 = some (saw .working (some 11) [0]) := by decide +kernel

/-- The part with its office receiver as given. -/
def receiving (r : Receiver) : State := { State.reset with office := { State.reset.office with receiver := r } }
/-- A header with body length 4,096, and one with 4,097. -/
def header4096 : List Byte := [1#8, 0#8, 0#8, 7#8, 1#8, 16#8, 0#8]
def header4097 : List Byte := [1#8, 0#8, 0#8, 7#8, 1#8, 16#8, 1#8]
/-- The worked REQUEST of 10. -/
def header731 : List Byte := [1#8, 6#8, 2#8, 219#8, 2#8, 0#8, 10#8]
def body731 : List Byte := [2#8, 1#8, 0#8, 1#8, 2#8, 50#8, 0#8, 0#8, 1#8, 4#8]
theorem witness_OfficePortReceivesFrames_begin :
    State.reset.quiet = true ∧ State.reset.office.receiver = .hunting := by decide +kernel
theorem witness_OfficePortReceivesFrames_header :
    (receiving (.header true)).quiet = true ∧ (receiving (.header true)).office.receiver = .header true ∧
      header4096.length = 7 ∧ headerLength header4096 = 4096 ∧ header4097.length = 7 ∧ headerLength header4097 = 4097 := by
  decide +kernel
theorem witness_OfficePortReceivesFrames_arrived :
    (receiving (.body true header731)).quiet = true ∧
      (receiving (.body true header731)).office.receiver = .body true header731 ∧
      (body731 ++ be2 (crc16 (header731 ++ body731))).length = headerLength header731 + 2 := by decide +kernel

/-- A state whose floor line is held by a broadcast frame, with REPLY and REPORT frames waiting as given. -/
def outputs (replies : List (List Byte)) (reports : List Report) : State :=
  { State.reset with
    line := { State.reset.line with holder := .frame }
    office := { State.reset.office with replies := replies, sending := some (.reply [0#8]) }
    alarms := { State.reset.alarms with reports := reports } }
/-- A STOCK report. -/
def report : Report := { body := .stock .created 11, time := 0, gap := false }
theorem witness_OutputArbiterChoosesReplyFirst :
    (outputs [[1#8]] [report]).quiet = true ∧ (outputs [[1#8]] [report]).line.holder ≠ .free ∧
      (outputs [[1#8]] [report]).office.replies = [1#8] :: [] ∧ (outputs [] [report]).quiet = true ∧
      (outputs [] [report]).line.holder ≠ .free ∧ (outputs [] [report]).alarms.reports = report :: [] ∧
      (outputs [] []).quiet = true ∧ (outputs [] []).line.holder ≠ .free ∧ (outputs [] []).alarms.reports = [] := by
  decide +kernel

/-- A received frame of an origin with one item. -/
def request (origin : Nat) : Request := { origin := origin, tag := 7, items := (encodeItem .takeAlarm).toList }
/-- Origin 15 is defined beside origin 0, and a frame is received. -/
def receivedFrom (origin : Nat) : State :=
  { State.reset with
    handler := { State.reset.handler with origins := [o0, { o0 with number := 15 }] }
    office := { State.reset.office with received := [request origin] } }
theorem witness_FramesAreBegunDeniedOrRefused_begun :
    (receivedFrom 15).quiet = true ∧ (receivedFrom 15).handler.inHand = none ∧
      (receivedFrom 15).office.received = request 15 :: [] ∧ (request 15).origin ≤ 15 ∧
      ((receivedFrom 15).origin? (request 15).origin).isSome = true := by decide +kernel
theorem witness_FramesAreBegunDeniedOrRefused_denied :
    (receivedFrom 16).quiet = true ∧ (receivedFrom 16).handler.inHand = none ∧
      (receivedFrom 16).office.received = request 16 :: [] ∧ 15 < (request 16).origin ∧
      (receivedFrom 3).quiet = true ∧ (receivedFrom 3).office.received = request 3 :: [] ∧
      (receivedFrom 3).origin? (request 3).origin = none := by decide +kernel
/-- A frame in hand whose one item has no known code. -/
def badHand : InHand := { origin := 0, tag := 7, items := [⟨5#8, 0#8, []⟩], results := [] }
theorem witness_FramesAreBegunDeniedOrRefused_refused :
    let s : State := { State.reset with handler := { State.reset.handler with inHand := some badHand } }
    s.quiet = true ∧ s.handler.inHand = some badHand ∧ badHand.items = ⟨5#8, 0#8, []⟩ :: [] ∧
      decodeItem ⟨5#8, 0#8, []⟩ = none := by decide +kernel

/-- The part when the origin of the frame in hand is of class 3 with no area. -/
def powerless (i : Instr) : State :=
  { before i quietShop with handler := { origins := [{ o0 with cls := 3, areas := 0#8 }], openLevel := 2, inHand := some (hand i) } }
theorem witness_DeniedItemChangesNothing :
    areaOf .takeAlarm = some .alarm ∧ (powerless .takeAlarm).quiet = true ∧
      (powerless .takeAlarm).handler.inHand = some (hand .takeAlarm) ∧
      (hand .takeAlarm).items.head?.bind decodeItem = some .takeAlarm ∧ (hand .takeAlarm).items.tail = [] ∧
      ((powerless .takeAlarm).origin? 0).any (fun o => o.maySend (powerless .takeAlarm).handler.openLevel .alarm) =
        false := by decide +kernel
theorem witness_EveryItemIsAnsweredOnceWhole :
    areaOf (.discard (some 12)) = some .stock ∧ ReadyAt (.discard (some 12)) .stock quietShop := by decide +kernel

theorem witness_ReadsReturnTheirRecords_slab :
    ReadyAt (.readSlab (some 11)) .read quietShop ∧ orContext (some 11) o0.ctx.slab = some 11 ∧ slabRange 11 = true ∧
      (before (.readSlab (some 11)) quietShop).slab? 11 = some (slab 11 (some 9000) .stocked) := by decide +kernel
theorem witness_ReadsReturnTheirRecords_plan :
    let s := bedShop .pending (saw .loaded (some 11) []) []
    ReadyAt (.readPlan (some 11)) .read s ∧ (before (.readPlan (some 11)) s).plan? 11 = some (plan .pending) ∧
      (before (.readPlan (some 11)) s).slab? 11 = some (slab 11 (some 9000) (.onBed 1 1)) := by decide +kernel
theorem witness_ReadsReturnTheirRecords_cutter :
    ReadyAt (.readCutter (some 8)) .read quietShop ∧ orContext (some 8) o0.ctx.onCutter = some 8 ∧
      cutterRange 8 = true ∧ (before (.readCutter (some 8)) quietShop).cutter? 8 = some jet := by decide +kernel
theorem witness_ReadsReturnTheirRecords_channel :
    ReadyAt (.readChannel 0) .read quietShop ∧ channelRange 0 = true ∧
      (before (.readChannel 0) quietShop).channel? 0 = some (chan 0 .level) := by decide +kernel
theorem witness_ReadsReturnTheirRecords_others :
    ReadyAt (.readJob (some 63)) .read quietShop ∧ orContext (some 63) o0.ctx.job = some 63 ∧ jobRange 63 = true ∧
      ReadyAt .readRoster .read quietShop ∧ ReadyAt .readWater .read quietShop ∧ ReadyAt .readAlarms .read quietShop := by
  decide +kernel

theorem witness_UseItemsSetOneContextField :
    ReadyAt (.useJob (some 63)) .context quietShop ∧ (some 63).all (· ≤ 63) = true ∧
      ReadyAt (.useCutter (some 8)) .context quietShop ∧ (some 8).all (fun c => 1 ≤ c && c ≤ 8) = true ∧
      ReadyAt (.useSlab (some 4294967295)) .context quietShop ∧
      (some 4294967295).all (fun c => 1 ≤ c && c ≤ 4294967295) = true ∧
      ReadyAt (.useJob (some 64)) .context quietShop ∧ (some 64).any (63 < ·) = true := by decide +kernel
theorem witness_UseItemsSetOneContextField_refused :
    ReadyAt (.useCutter (some 9)) .context quietShop ∧ (some 9).any (fun c => c = 0 || 8 < c) = true ∧
      ReadyAt (.useCutter (some 0)) .context quietShop ∧ (some 0).any (fun c => c = 0 || 8 < c) = true ∧
      ReadyAt (.useSlab (some 0)) .context quietShop ∧ (some 0).any (fun c => c = 0 || 4294967295 < c) = true := by
  decide +kernel
theorem witness_ContextClearForgetsTheContext : ReadyAt .contextClear .context quietShop := by decide +kernel
theorem witness_OriginItemsRewriteTheTable_origin :
    ReadyAt (.origin 15 3 3) .table quietShop ∧
      keepsTable (put Origin.number { number := 15, cls := 3, areas := BitVec.ofNat 8 3, ctx := ⟨none, none, none⟩ }
        (before (.origin 15 3 3) quietShop).handler.origins) = true ∧
      ReadyAt (.origin 0 1 255) .table quietShop ∧
      keepsTable (put Origin.number { number := 0, cls := 1, areas := BitVec.ofNat 8 255, ctx := ⟨none, none, none⟩ }
        (before (.origin 0 1 255) quietShop).handler.origins) = false := by decide +kernel
theorem witness_OriginItemsRewriteTheTable_others :
    ReadyAt (.originRemove 15) .table (receivedFrom 15) ∧
      ((before (.originRemove 15) (receivedFrom 15)).origin? 15).isSome = true ∧
      keepsTable (remove Origin.number 15 (before (.originRemove 15) (receivedFrom 15)).handler.origins) = true ∧
      ReadyAt (.openLevel 3) .table quietShop := by decide +kernel

theorem witness_PriceSetsBasisAndLot :
    ReadyAt (.price (some 11) 1000000 (some 255)) .stock quietShop ∧ orContext (some 11) o0.ctx.slab = some 11 ∧
      slabRange 11 = true ∧ (some 255).all (· ≤ 255) = true ∧
      (before (.price (some 11) 1000000 (some 255)) quietShop).slab? 11 = some (slab 11 (some 9000) .stocked) := by
  decide +kernel
/-- RESERVE stands next with each check of its table failing in turn, and with none. -/
theorem witness_ReserveChecksInOrder :
    ReadyAt (.reserve none none) .stock quietShop ∧ ReadyAt (.reserve (some 11) (some 64)) .stock quietShop ∧
      ReadyAt (.reserve (some 99) (some 1)) .stock quietShop ∧
      ReadyAt (.reserve (some 11) (some 1)) .stock (shop (.reserved 1) (saw .idle none []) [] []) ∧
      ReadyAt (.reserve (some 12) (some 1)) .stock quietShop ∧ ReadyAt (.reserve (some 11) (some 63)) .stock quietShop ∧
      ReadyAt (.reserve (some 4000000000) (some 0)) .stock quietShop := by decide +kernel
theorem witness_ReleaseReturnsAPlanlessSlab :
    ReadyAt (.release (some 11)) .stock (shop (.reserved 1) (saw .idle none []) [] []) ∧
      ReadyAt (.release (some 11)) .stock (shop (.reserved 1) (saw .idle none []) [plan .pending] []) ∧
      ReadyAt (.release (some 4294967295)) .stock quietShop ∧ slabRange 4294967295 = true := by decide +kernel
theorem witness_DiscardRemovesReportsAndCharges :
    ReadyAt (.discard (some 11)) .stock quietShop ∧ slabRange 11 = true ∧
      (before (.discard (some 11)) quietShop).slab? 11 = some (slab 11 (some 9000) .stocked) ∧
      ReadyAt (.discard (some 12)) .stock quietShop ∧
      (before (.discard (some 12)) quietShop).slab? 12 = some (slab 12 none .stocked) := by decide +kernel
/-- The shop with a full report queue. -/
def choked : State :=
  { quietShop with alarms := { quietShop.alarms with reports := List.replicate 64 report } }
theorem witness_DiscardRemovesReportsAndCharges_choked :
    ReadyAt (.discard (some 12)) .stock choked ∧
      (before (.discard (some 12)) choked).slab? 12 = some (slab 12 none .stocked) ∧
      64 ≤ (before (.discard (some 12)) choked).alarms.reports.length := by decide +kernel
theorem witness_FindRemnantChoosesTheSmallest :
    ReadyAt (.findRemnant 1 1 (some 255)) .stock quietShop ∧ ReadyAt (.findRemnant 3600 2100 none) .stock quietShop ∧
      ReadyAt (.findRemnant 3000 1800 none) .stock quietShop ∧
      (before (.findRemnant 3000 1800 none) quietShop).candidates 3000 1800 none = [remnant 4000000000] := by
  decide +kernel
theorem witness_LimitItemsAreSetOrRefused :
    ReadyAt (.remnantLimits 2100 3600) .stock quietShop ∧ ReadyAt (.remnantLimits 99 100) .stock quietShop ∧
      ReadyAt (.tolerance 20) .plan quietShop ∧ ReadyAt (.tolerance 21) .plan quietShop := by decide +kernel

/-- A SCAN of a tag. -/
def scanOf (tag length : Nat) : ScanData := ⟨tag, 3, length, 300, 10, [⟨0, 300, 0, 300⟩]⟩
/-- A poll of the reader with its answer coming in. -/
def readerPolled (s : State) : State := held s .poll 4 (.window false) (some true)
theorem witness_ScanOfAReaderReachesTheStock :
    (readerPolled quietShop).quiet = true ∧ (readerPolled quietShop).line.receiving = some true ∧
      (readerPolled quietShop).line.holder = .tx { kind := .poll, address := 4, phase := .window false } ∧
      (readerPolled quietShop).station? 4 = some (station 4 .reader) ∧ (station 4 .reader).kind = .reader ∧
      (scanOf 3999999999 299).inRange = false ∧ (scanOf 3999999999 300).inRange = true ∧
      (readerPolled quietShop).slab? 3999999999 = none ∧ (readerPolled quietShop).stock.slabs.length < 256 ∧
      (scanOf 11 300).inRange = true ∧
      (readerPolled quietShop).slab? 11 = some (slab 11 (some 9000) .stocked) := by decide +kernel
/-- The same with a full stock table. -/
def fullShop : State :=
  { quietShop with stock := { quietShop.stock with
      slabs := (List.range 256).map fun k => slab (k + 100) none .stocked } }
theorem witness_ScanOfAReaderReachesTheStock_full :
    (readerPolled fullShop).quiet = true ∧ (readerPolled fullShop).line.receiving = some true ∧
      (readerPolled fullShop).station? 4 = some (station 4 .reader) ∧ (scanOf 1 300).inRange = true ∧
      (readerPolled fullShop).slab? 1 = none ∧ 256 ≤ (readerPolled fullShop).stock.slabs.length := by decide +kernel

/-- The reserved slab 11 with a plan of one step. -/
def planned (st : StepState) : State := shop (.reserved 1) (saw .idle none []) [plan st] []
def ripEntry : RawStep := ⟨1, 1, 0, 0, 1, 600, 0⟩
def ripLoaded : Step := ⟨1, 1, 1, .rip 600, .pending, false, 0, [], none⟩
theorem witness_PlanItemsActOnThePlan_load :
    let i : Instr := .planLoad (some 11) 10 [ripEntry]
    let s := planned .pending
    ReadyAt i .plan s ∧ ([ripEntry].all fun r => (stepJob r o0.ctx).isSome) = true ∧
      loadedSteps o0.ctx [ripEntry] = some [ripLoaded] ∧
      (before i s).slab? 11 = some (slab 11 (some 9000) (.reserved 1)) ∧
      ((before i s).plan? 11).any Plan.begun = false ∧ ([ripLoaded].all fun st => (before i s).jobOpen st.job) = true ∧
      ((before i s).plan? 11).isSome = true := by decide +kernel
theorem witness_PlanItemsActOnThePlan_found :
    (planned .blocked).slab? 11 = some (slab 11 (some 9000) (.reserved 1)) ∧
      (planned .blocked).plan? 11 = some (plan .blocked) ∧ stepRange 1 = true ∧
      (plan .blocked).step? 1 = some (rip .blocked) := by decide +kernel
theorem witness_PlanItemsActOnThePlan_rulings :
    ReadyAt (.planClear (some 11)) .plan (planned .blocked) ∧ (plan .blocked).begun = false ∧
      ReadyAt (.skip (some 11) 1) .plan (planned .blocked) ∧ (rip .blocked).state.skippable = true ∧
      ReadyAt (.verdict (some 11) 1 1) .plan (planned .flagged) ∧ (rip .flagged).state = .flagged ∧
      ReadyAt (.verdict (some 11) 1 2) .plan (planned .flagged) ∧
      ReadyAt (.verdict (some 11) 1 2) .plan (planned .unresolved) ∧ (rip .unresolved).state = .unresolved ∧
      ReadyAt (.verdict (some 11) 1 3) .plan (planned .unresolved) := by decide +kernel
theorem witness_SkippedStepStaysSkipped :
    ReadyAt (.skip (some 11) 1) .plan (planned .flagged) ∧
      (before (.skip (some 11) 1) (planned .flagged)).slab? 11 = some (slab 11 (some 9000) (.reserved 1)) ∧
      (before (.skip (some 11) 1) (planned .flagged)).plan? 11 = some (plan .flagged) ∧
      (plan .flagged).step? 1 = some (rip .flagged) ∧ (rip .flagged).state.skippable = true := by decide +kernel
theorem witness_ProjectionKeepsProgress :
    workedSteps[2]? = some ⟨3, 21, 1, .cross .far 1396 102, .pending, false, 0, [], none⟩ ∧
      ((projectSteps 3200 4 [⟨2000, 2300, 300, 500⟩] ⟨0, 1500, []⟩ workedSteps)[2]?).isSome = true := by decide +kernel
theorem witness_StoneIsConserved : (⟨1, 0, 600, 0, 0⟩ : Strip).near ≤ (⟨1, 0, 600, 0, 0⟩ : Strip).far := by decide

theorem witness_LoadAndUnloadMoveTheSlab_load :
    let s := shop (.reserved 63) (saw .idle none []) [] []
    let i : Instr := .load (some 11) (some 1) (some 63)
    ReadyAt i .work s ∧ cutterRange 1 = true ∧ (before i s).cutter? 1 = some (saw .idle none []) ∧
      (before i s).slab? 11 = some (slab 11 (some 9000) (.reserved 63)) ∧ (saw .idle none []).state = .idle := by
  decide +kernel
theorem witness_LoadAndUnloadMoveTheSlab_unload :
    let s := bedShop .pending (saw .loaded (some 11) []) []
    let i : Instr := .unload (some 1)
    ReadyAt i .work s ∧ (before i s).cutter? 1 = some (saw .loaded (some 11) []) ∧
      (((before i s).stepsOf 11).any fun st => st.state == .unresolved) = false ∧
      (before i s).slab? 11 = some (slab 11 (some 9000) (.onBed 1 1)) ∧
      (slab 11 (some 9000) (.onBed 1 1)).state.job = some 1 := by decide +kernel
/-- Slab 11 on a bed with one strip and a rip front of the width given. -/
def cutSlab (width : Nat) : Slab :=
  { slab 11 (some 9000) (.onBed 1 1) with geom := { y0 := 1500, wr := width, strips := [⟨1, 0, 600, 0, 3000⟩] } }
theorem witness_UnloadSequenceMakesARemnant :
    let sl := cutSlab 300
    let s : State := { quietShop with stock := { quietShop.stock with slabs := [sl, remnant 4000000000] } }
    s.slab? sl.id = some sl ∧ s.stock.minWidth ≤ sl.geom.wr ∧ s.stock.minLength ≤ sl.length ∧
      lowestFree (s.dropSlab sl.id).usedSlots 24 = some 2 ∧ stripScrap sl = 1800000 ∧
      ¬(s.stock.minWidth ≤ (cutSlab 299).geom.wr) := by decide +kernel
/-- The remnant in slot `k + 1`, and a full rack of such remnants beside slab 11. -/
def racked (k : Nat) (state : SlabState) : Slab :=
  { slab (4000000000 + k) (some 9000) state with remnant := some ⟨11, k + 1⟩ }
def rackShop (state : Nat → SlabState) : State :=
  { quietShop with stock := { quietShop.stock with
      slabs := cutSlab 300 :: (List.range 24).map fun k => racked k (state k)
      recency := (List.range 24).map (· + 4000000000) } }
/-- The remnant at the tail of the order is RESERVED and passed over: the one before it is evicted. -/
theorem witness_UnloadSequenceMakesARemnant_evicts :
    let s := rackShop fun k => if k = 23 then .reserved 1 else .stocked
    let u := s.dropSlab 11
    s.slab? 11 = some (cutSlab 300) ∧ lowestFree u.usedSlots 24 = none ∧
      u.slab? 4000000022 = some (racked 22 .stocked) ∧
      u.stock.recency = (List.range 22).map (· + 4000000000) ++ 4000000022 :: [4000000023] ∧
      u.slab? 4000000023 = some (racked 23 (.reserved 1)) := by decide +kernel
theorem witness_UnloadSequenceMakesARemnant_scraps :
    let s := rackShop fun _ => .reserved 1
    let u := s.dropSlab 11
    lowestFree u.usedSlots 24 = none ∧ (u.stock.slabs.all fun q => q.state != .stocked) = true := by decide +kernel
/-- TOOL CHANGE stands next with each check failing in turn, and with none. -/
theorem witness_ToolChangeRenewsTheTool :
    ReadyAt (.toolChange none) .work quietShop ∧ ReadyAt (.toolChange (some 9)) .work quietShop ∧
      ReadyAt (.toolChange (some 7)) .work quietShop ∧ ReadyAt (.toolChange (some 8)) .work quietShop ∧
      ReadyAt (.toolChange (some 1)) .work (bedShop .issued (saw .working (some 11) [0]) [record .executing]) := by
  decide +kernel
theorem witness_ClearFaultReturnsTheCutter :
    let s := bedShop .pending (saw .faulted (some 11) []) []
    ReadyAt (.clearFault (some 1)) .work s ∧
      (before (.clearFault (some 1)) s).cutter? 1 = some (saw .faulted (some 11) []) ∧
      ReadyAt (.clearFault (some 8)) .work s ∧ (before (.clearFault (some 8)) s).cutter? 8 = some jet ∧
      jet.state ≠ .faulted := by decide +kernel

/-- CUT 1 of slab 11 on the saw for job 1. -/
def cut1 : Instr := .cut 1 (some 11) (some 1) (some 1)
/-- The shop in which CUT 1 stands next. -/
def cutShop (s : State) : State := before cut1 s
/-- The hypotheses that the two statements about CUT share. -/
abbrev CutStands (s : State) (c : Cutter) : Prop :=
  Ready s cut1 .work (hand cut1) [] o0 ∧ s.cutter? 1 = some c ∧ s.slab? 11 = some (slab 11 (some 9000) (.onBed 1 1)) ∧
    s.plan? 11 = some (plan .pending) ∧ (plan .pending).step? 1 = some (rip .pending) ∧
    (plan .pending).inOrder (rip .pending) = true ∧ s.jobOpen 1 = true
theorem witness_CutIsAccepted :
    let c := saw .loaded (some 11) []
    let s := cutShop (bedShop .pending c [])
    CutStands s c ∧ s.alarms.stops .jobStop 1 = false ∧ s.alarms.stops .cutterStop 1 = false ∧ c.state ≠ .faulted ∧
      c.toolState ≠ .worn ∧ c.slots.length < 2 ∧ s.poolId c = some 0 ∧ s.gate.waiting = [] := by decide +kernel
/-- A JET passes the start gate alone; the BLADE of the shop, whose roles are unassigned, does not. -/
theorem witness_CutIsAccepted_gate :
    let c := { saw .loaded (some 11) [] with kind := .jet }
    let s := cutShop (bedShop .pending c [])
    CutStands s c ∧ s.startGate (cutRecord 0 c (slab 11 (some 9000) (.onBed 1 1)) (rip .pending)) = true ∧
      s.startGate (cutRecord 0 (saw .loaded (some 11) []) (slab 11 (some 9000) (.onBed 1 1)) (rip .pending)) = false := by
  decide +kernel
/-- The shop with one pending alarm. -/
def alarmed (s : State) (k : AlarmKind) (n : Nat) (a : AlarmAction) : State :=
  { s with alarms := { s.alarms with
      actions := s.alarms.actions.map fun e => if e.kind = k then { e with action := a } else e
      entries := [{ kind := k, subject := n, priority := 3, count := 1, first := 0, last := 0 }] } }
/-- The saw with slab 11 on its bed, and the same with a worn tool. -/
def loadedSaw : Cutter := saw .loaded (some 11) []
def wornSaw : Cutter := { loadedSaw with life := 0 }
theorem witness_CutRefusedForWornOrStopped_stopped :
    CutStands (cutShop (alarmed (bedShop .pending loadedSaw []) .jobOverQuote 1 .jobStop)) loadedSaw ∧
      (cutShop (alarmed (bedShop .pending loadedSaw []) .jobOverQuote 1 .jobStop)).alarms.stops .jobStop 1 = true ∧
      CutStands (cutShop (alarmed (bedShop .pending loadedSaw []) .cutTimeout 1 .cutterStop)) loadedSaw ∧
      (cutShop (alarmed (bedShop .pending loadedSaw []) .cutTimeout 1 .cutterStop)).alarms.stops .cutterStop 1 = true := by
  decide +kernel
theorem witness_CutRefusedForWornOrStopped_worn :
    CutStands (cutShop (bedShop .pending (saw .faulted (some 11) []) [])) (saw .faulted (some 11) []) ∧
      CutStands (cutShop (bedShop .pending wornSaw [])) wornSaw ∧ wornSaw.toolState = .worn := by decide +kernel
theorem witness_AbortFlagsAndEnds :
    let s := bedShop .issued (saw .working (some 11) [0]) [record .sent]
    ReadyAt (.abort (some 1)) .work s ∧ (before (.abort (some 1)) s).cutter? 1 = some (saw .working (some 11) [0]) ∧
      (before (.abort (some 1)) s).record? 0 = some (record .sent) ∧ (record .sent).state.sentOrLater = true ∧
      ((before (.abort (some 1)) s).aborted (saw .working (some 11) [0])).record? 0 =
        some { record .sent with abortFlag := true } ∧
      ReadyAt (.abort (some 8)) .work s ∧ (before (.abort (some 8)) s).cutter? 8 = some jet ∧ jet.slots = [] ∧
      ((before (.abort (some 8)) s).cutting.records.any fun r => r.onCutter == 8) = false := by decide +kernel
theorem witness_AbortFlagsAndEnds_waiting :
    let s := bedShop .issued (saw .working (some 11) [0]) [record .waiting]
    ReadyAt (.abort (some 1)) .work s ∧ (before (.abort (some 1)) s).cutter? 1 = some (saw .working (some 11) [0]) ∧
      (before (.abort (some 1)) s).record? 0 = some (record .waiting) ∧ (record .waiting).state = .waiting := by
  decide +kernel

/-- CUTTER with a number at an address. -/
def cutterItem (n a : Nat) : Instr := .cutter n a 1 4 3 500 20 10 60 100 100 600000
theorem witness_CutterIsDefinedOrChanged :
    let s := bedShop .pending (saw .loaded (some 11) []) []
    ReadyAt (cutterItem 7 24) .table s ∧ cutterRange 7 = true ∧ addressRange 24 = true ∧ settings.inRange = true ∧
      ((before (cutterItem 7 24) s).cutting.cutters.any fun c => c.address == 24 && c.number != 7) = false ∧
      (before (cutterItem 7 24) s).cutter? 7 = none ∧ ReadyAt (cutterItem 8 24) .table s ∧
      (before (cutterItem 8 24) s).cutter? 8 = some jet ∧ jet.state = .idle ∧ ReadyAt (cutterItem 1 1) .table s ∧
      ((before (cutterItem 1 1) s).cutting.cutters.any fun c => c.address == 1 && c.number != 1) = false ∧
      (before (cutterItem 1 1) s).cutter? 1 = some (saw .loaded (some 11) []) := by decide +kernel
/-- The removal stands next with each check failing in turn, and with none. -/
theorem witness_CutterRemovalFreesItsAddress :
    let s := bedShop .pending (saw .loaded (some 11) []) []
    ReadyAt (.cutterRemove 9) .table s ∧ ReadyAt (.cutterRemove 0) .table s ∧ ReadyAt (.cutterRemove 7) .table s ∧
      ReadyAt (.cutterRemove 1) .table s ∧ ReadyAt (.cutterRemove 8) .table s ∧
      ∀ d ∈ (before (.cutterRemove 8) s).cutting.cutters, d.address = jet.address → d.number = 8 := by decide +kernel

/-- The shop with a scan list and its engine IDLE. -/
def listed : State := scanning quietShop { resting with mode := none, position := none, lastPassEnd := none }
theorem witness_ScanItemsDriveTheEngine_idle :
    ReadyAt (.scanList [0, 1, 2]) .water quietShop ∧ [0, 1, 2].Nodup ∧
      (∀ n ∈ [0, 1, 2], ((before (.scanList [0, 1, 2]) quietShop).channel? n).isSome = true) ∧
      quietShop.water.engine.mode = none ∧ ReadyAt (.scanStart 1 (some 2)) .water quietShop ∧
      ReadyAt (.scanStart 2 none) .water listed ∧ listed.water.engine.mode = none ∧ listed.water.engine.scanList ≠ [] ∧
      ReadyAt (.scanStart 3 none) .water listed ∧ ReadyAt .scanStop .water quietShop := by decide +kernel
theorem witness_ScanItemsDriveTheEngine_running :
    ReadyAt (.scanStart 2 none) .water (scanning quietShop { resting with lastPassEnd := none }) ∧
      ReadyAt (.scanStart 1 (some 0)) .water (scanning quietShop { resting with lastPassEnd := none }) ∧
      ReadyAt (.scanStart 3 none) .water (scanning quietShop { resting with lastPassEnd := none }) ∧
      ReadyAt .scanStop .water (scanning quietShop { resting with lastPassEnd := none }) ∧ resting.mode ≠ none := by
  decide +kernel

theorem witness_ChannelItemsRewriteTheTable_define :
    let i : Instr := .channel 15 24 3 1 (some 65535) (some 65535)
    ReadyAt i .table quietShop ∧ channelRange 15 = true ∧ ordered (some 65535) (some 65535) = true ∧
      addressRange 24 = true ∧ ChannelKind.code .level = 1 ∧ ChannelKind.admits .level (some 65535) (some 65535) = true ∧
      ((before i quietShop).water.channels.any fun ch => ch.address == 24 && ch.index == 3 && ch.number != 15) = false ∧
      (before i quietShop).stationIs 24 .node = true ∧ (before i quietShop).water.engine.scans 15 = false ∧
      (before i quietShop).channel? 15 = none ∧ (before i quietShop).gate.roleOf 15 = none := by decide +kernel
theorem witness_ChannelItemsRewriteTheTable_change :
    let i : Instr := .channel 0 24 0 1 none (some 100)
    ReadyAt i .table quietShop ∧ (before i quietShop).channel? 0 = some (chan 0 .level) ∧ (chan 0 .level).address = 24 ∧
      (chan 0 .level).index = 0 ∧ (chan 0 .level).kind = .level ∧
      ((before i quietShop).water.channels.any fun ch => ch.address == 24 && ch.index == 0 && ch.number != 0) = false := by
  decide +kernel
/-- The shop with channel 0 in the level role, its stale mark as given. -/
def levelled (stale : Bool) : State :=
  { quietShop with
    water := { quietShop.water with channels := [{ chan 0 .level with stale := stale }, chan 1 .turbidity] }
    gate := { quietShop.gate with level := some 0 } }
/-- A new sensor for channel 0: with a role and its kind kept, and with another kind, with and without the role. -/
theorem witness_ChannelItemsRewriteTheTable_sensor :
    let i : Instr := .channel 0 24 3 1 none none
    let j : Instr := .channel 0 24 0 3 none none
    ReadyAt i .table (levelled false) ∧
      (before i (levelled false)).channel? 0 = some { chan 0 .level with stale := false } ∧ (chan 0 .level).index ≠ 3 ∧
      (levelled false).gate.roleOf 0 ≠ none ∧ ReadyAt j .table (levelled true) ∧
      ReadyAt j .table quietShop ∧ (before j quietShop).gate.roleOf 0 = none ∧ (chan 0 .level).kind ≠ .flow := by
  decide +kernel
theorem witness_ChannelItemsRewriteTheTable_others :
    ReadyAt (.channelRemove 2) .table quietShop ∧ ((before (.channelRemove 2) quietShop).channel? 2).isSome = true ∧
      (before (.channelRemove 2) quietShop).water.engine.scans 2 = false ∧
      2 ∉ (before (.channelRemove 2) quietShop).water.engine.scanList ∧
      (before (.channelRemove 2) quietShop).gate.roleOf 2 = none ∧
      ReadyAt (.channelLimits 1 (some 0) (some 10000)) .water quietShop ∧ ordered (some 0) (some 10000) = true ∧
      (before (.channelLimits 1 (some 0) (some 10000)) quietShop).channel? 1 = some (chan 1 .turbidity) ∧
      (chan 1 .turbidity).kind.admits (some 0) (some 10000) = true := by decide +kernel
theorem witness_RolesAndMarksEvaluateTheGate :
    let i : Instr := .waterRoles (some 0) (some 1) (some 2) none
    ReadyAt i .water quietShop ∧ ([some 0, some 1, some 2, none].filterMap id).Nodup ∧
      (([some 0, some 1, some 2, none].filterMap id).all fun n => ((before i quietShop).channel? n).isSome) = true ∧
      (before i quietShop).roleKind (some 0) .level = true ∧ (before i quietShop).roleKind (some 1) .turbidity = true ∧
      (before i quietShop).roleKind (some 2) .flow = true ∧ (before i quietShop).roleKind none .flow = true ∧
      ReadyAt (.waterMarks 65535 65534 65535 10000 10000) .water quietShop ∧
      ReadyAt (.waterMarks 10 10 11 0 0) .water quietShop := by decide +kernel
/-- A pending alarm whose kind holds LINE_HOLD, with the gate told of it and the office flag set. -/
def heldShop : State :=
  { alarmed quietShop .cutterFault 1 .lineHold with
    gate := { quietShop.gate with alarmSource := true, officeHold := true, lineHold := true } }
theorem witness_OfficeHoldIsItsOwnSource :
    LineHoldFollows (before .lineHold quietShop) ∧ ReadyAt .lineHold .water quietShop ∧
      LineHoldFollows (before .lineRelease quietShop) ∧ ReadyAt .lineRelease .water quietShop ∧
      LineHoldFollows (before .lineRelease heldShop) ∧ ReadyAt .lineRelease .water heldShop ∧
      LineHoldFollows (before .lineHold heldShop) ∧ ReadyAt .lineHold .water heldShop ∧
      heldShop.gate.alarmSource = true := by unfold LineHoldFollows; decide +kernel
theorem witness_HoldClosesTheStartGate : heldShop.gate.lineHold = true := by decide +kernel

/-- A scan poll of channel 0 in the run that goes on, with an answer coming in. -/
def polledChannel : State :=
  held (scanning quietShop { resting with inFlight := some ⟨0, 1⟩ }) (.scanPoll 0 0 1) 24 (.window true) (some true)
theorem witness_ScanPollsAreAnswered :
    polledChannel.quiet = true ∧ polledChannel.line.receiving = some true ∧
      polledChannel.line.holder =
        .tx { kind := .scanPoll 0 0 polledChannel.water.engine.run, address := 24, phase := .window true } ∧
      polledChannel.station? 24 = some (station 24 .node) ∧ polledChannel.water.engine.flightIsCurrent = true := by
  decide +kernel
/-- The same poll answered with a VALUE whose ACK is going out; channels 0 and 1 hold the level and turbidity roles, and the
latch stands as given. -/
def valueAcked (i : Nat) (valid : Bool) (v : Nat) (latch : Bool) : State :=
  let s := held (scanning quietShop { resting with inFlight := some ⟨0, 1⟩ }) (.scanPoll 0 0 1) 24
    (.closing (.value i valid v)) none
  { s with
    line := { s.line with out := some [90#8] }
    water := { s.water with
      channels := [chan 0 .level, { chan 1 .turbidity with stale := false, reading := some ⟨10, 0⟩ }] }
    gate := { s.gate with
      level := some 0, turbidity := some 1, marks := ⟨20, 10, 30, 10, 50⟩, latch := latch, lineHold := latch } }
theorem witness_ScanPollsAreAnswered_ended :
    let s := valueAcked 0 true 9 false
    s.quiet = true ∧ s.line.out = some [90#8] ∧
      s.line.holder = .tx { kind := .scanPoll 0 0 1, address := 24, phase := .closing (.value 0 true 9) } ∧
      s.water.engine.flightIsCurrent = true ∧ s.stationIs 24 .node = true ∧ s.channel? 0 = some (chan 0 .level) ∧
      65535 ≤ (chan 0 .level).kind.maxValue ∧ s.gate.roleOf 0 = some 1 ∧ s.line.broadcast = none ∧
      (valueAcked 0 false 9 false).quiet = true ∧ (valueAcked 1 true 9 false).quiet = true ∧
      (scanning (valueAcked 0 true 9 false) { resting.stopped with inFlight := some ⟨0, 1⟩ }).quiet = true ∧
      (scanning (valueAcked 0 true 9 false) { resting.stopped with inFlight := some ⟨0, 1⟩ }).water.engine.flightIsCurrent
        = false := by decide +kernel
/-- The same with a turbidity sample, and with a flow channel in the makeup role. -/
theorem witness_ScanPollsAreAnswered_roles :
    let s := valueAcked 0 true 51 false
    let turbid : State := { s with gate := { s.gate with level := some 1, turbidity := some 0 } }
    let makeup : State := { s with
      water := { s.water with channels := [chan 0 .flow] }, gate := { quietShop.gate with makeup := some 0 } }
    turbid.quiet = true ∧ turbid.gate.roleOf 0 = some 2 ∧ turbid.gate.marks.turbCritical < 51 ∧
      makeup.quiet = true ∧ makeup.channel? 0 = some (chan 0 .flow) ∧ makeup.gate.roleOf 0 = some 4 ∧
      10000 ≤ (chan 0 .flow).kind.maxValue ∧ (chan 0 .flow).kind.maxValue < 10001 := by decide +kernel
/-- R107, R115, R116: nothing is stored at the answer; at the end of its transaction 9 L under the mark of 10 sets the latch,
raises WATER_CRITICAL for the level channel and has HOLD sent; 10 L leaves a set latch, 30 L clears it. -/
theorem test_value_at_the_end :
    (nextOf (exec (.valueAnswer 24 0 true 9) polledChannel)).channel? 0 = some (chan 0 .level) ∧
      (let t := nextOf (exec .floorFrameSent (valueAcked 0 true 9 false))
       (t.channel? 0).map Channel.reading = some (some ⟨9, 0⟩) ∧ t.gate.latch = true ∧ t.gate.lineHold = true ∧
         t.alarms.entries.map (fun e => (e.kind, e.subject)) = [(.waterCritical, 0)] ∧ t.line.holder = .frame ∧
         t.water.engine.position = some 2) ∧
      (nextOf (exec .floorFrameSent (valueAcked 0 true 10 true))).gate.latch = true ∧
      (nextOf (exec .floorFrameSent (valueAcked 0 true 30 true))).gate.latch = false := by decide +kernel
/-- R106: with SCAN STOP taken between the answer and the end of its transaction the answer is discarded. -/
theorem test_stop_before_the_end :
    let s := scanning (valueAcked 0 true 9 false) { resting.stopped with inFlight := some ⟨0, 1⟩ }
    let t := nextOf (exec .floorFrameSent s)
    t.channel? 0 = some (chan 0 .level) ∧ t.gate.latch = false ∧ t.water.engine.inFlight = none ∧
      t.alarms.reports = [] := by decide +kernel

theorem witness_JobItemsRewriteTheJob :
    orContext (some 63) o0.ctx.job = some 63 ∧ ReadyAt (.jobOpen (some 63) (some 4294967295)) .job quietShop ∧
      (before (.jobOpen (some 63) (some 4294967295)) quietShop).job 63 = Job.fresh 63 .closed ∧
      ReadyAt (.jobQuote (some 1) (some 1)) .job quietShop ∧
      ((before (.jobQuote (some 1) (some 1)) quietShop).job 1).state = .opened ∧
      ReadyAt (.jobClose (some 1)) .job quietShop ∧
      ((before (.jobClose (some 1)) quietShop).stock.slabs.any fun sl => sl.state.job == some 1) = false ∧
      ((before (.jobClose (some 1)) quietShop).plans.plans.any fun p => p.steps.any fun st => st.holdsJob 1) = false ∧
      ReadyAt (.shopRates 100000 100000) .job quietShop := by decide +kernel
theorem witness_ChargeAddsToTheTotal :
    ({ Job.fresh 1 .opened with material := 4294967295, tool := 1, total := 4294967295, pieces := 65535 } : Job).balanced := by
  unfold Job.balanced; decide
/-- R127, R128 by hand: 10,000 tenths L/min over 10 s are 166 L and 400 units; from a count of 900 they pass 1,000 once. -/
theorem test_makeup :
    let s : State := { quietShop with
      cost := { quietShop.cost with freshRate := 7 }
      gate := { quietShop.gate with makeupRef := some 5, makeupCount := 900 } }
    let t := s.makeupSample 10000 99
    t.gate.makeupCount = 1066 ∧ t.gate.makeupRem = 400 ∧ t.gate.makeupRef = some 99 ∧ (t.job 0).water = 7 ∧
      (t.job 0).total = 7 := by decide +kernel

/-- Four readers stand. -/
def fourReaders : State :=
  { quietShop with line := { quietShop.line with
      roster := [station 3 .reader, station 4 .reader, station 5 .reader, station 6 .reader] } }
theorem witness_StationItemsRewriteTheRoster :
    addressRange 24 = true ∧ StationKind.code .node = 3 ∧ ReadyAt (.station 24 3) .table fourReaders ∧
      (before (.station 24 3) fourReaders).station? 24 = none ∧ StationKind.code .reader = 2 ∧
      ReadyAt (.station 24 2) .table fourReaders ∧ 4 ≤ (before (.station 24 2) fourReaders).readers ∧
      ReadyAt (.station 4 2) .table fourReaders ∧
      (before (.station 4 2) fourReaders).station? 4 = some (station 4 .reader) := by decide +kernel
/-- A station of another kind: free, at an address with a live record, and as a fifth reader. -/
theorem witness_StationItemsRewriteTheRoster_other_kind :
    let busy := bedShop .issued (saw .working (some 11) [0]) [record .executing]
    ReadyAt (.station 2 3) .table quietShop ∧ (before (.station 2 3) quietShop).station? 2 = some (station 2 .cutter) ∧
      (before (.station 2 3) quietShop).addressBusy 2 = false ∧ ReadyAt (.station 1 3) .table busy ∧
      (before (.station 1 3) busy).station? 1 = some (station 1 .cutter) ∧
      (before (.station 1 3) busy).addressBusy 1 = true ∧
      ReadyAt (.station 24 2) .table (fourReaders.putStation (station 24 .node)) ∧
      4 ≤ (before (.station 24 2) (fourReaders.putStation (station 24 .node))).readers := by decide +kernel
theorem witness_StationItemsRewriteTheRoster_others :
    ReadyAt (.stationRemove 4) .table fourReaders ∧ (before (.stationRemove 4) fourReaders).addressBusy 4 = false ∧
      ReadyAt (.lineSettings 200 3 10 120 60) .table quietShop ∧ ReadyAt (.lineSettings 5 0 1 2 1) .table quietShop := by
  decide +kernel
theorem witness_FloorRestartPutsTheLineBack :
    let s := bedShop .issued (saw .working (some 11) [0]) [record .executing]
    ReadyAt .floorRestart .table s ∧ (before .floorRestart s).station? 4 = some (station 4 .reader) ∧
      (before .floorRestart s).cutter? 1 = some (saw .working (some 11) [0]) ∧
      (before .floorRestart s).record? 0 = some (record .executing) ∧ (record .executing).state.sentOrLater = true ∧
      ((before .floorRestart s).cutting.cutters.all fun d => d.number == 1 || !d.slots.contains 0) = true ∧
      ReadyAt .floorRestart .table heldShop ∧ heldShop.gate.lineHold = true := by decide +kernel

theorem witness_AlarmItemsRewriteTheTables :
    let s := alarmed quietShop .cutterFault 1 .report
    ReadyAt (.alarmAction 9 7 2) .table s ∧ AlarmKind.code .cutterFault = 9 ∧ AlarmAction.code .cutterStop = 2 ∧
      AlarmAction.admittedFor .cutterStop .cutterFault = true ∧ ReadyAt .takeAlarm .alarm quietShop ∧
      (before .takeAlarm quietShop).alarms.entries = [] ∧ ReadyAt .takeAlarm .alarm s ∧
      (before .takeAlarm s).alarms.takeOrder =
        { kind := .cutterFault, subject := 1, priority := 3, count := 1, first := 0, last := 0 } :: [] := by decide +kernel
/-- A full alarm table of REPORT kinds at priority 2. -/
def crowded : State :=
  { quietShop with alarms := { quietShop.alarms with
      entries := (List.range 48).map fun k =>
        { kind := .remnantScrapped, subject := k, priority := 2, count := 255, first := 0, last := 0 } } }
theorem witness_RaiseCountsCreatesDisplacesOrDrops :
    (crowded.alarms.entries.find? fun e => e.kind == .remnantScrapped && e.subject == 47) =
        some { kind := .remnantScrapped, subject := 47, priority := 2, count := 255, first := 0, last := 0 } ∧
      (quietShop.alarms.entries.any fun e => e.kind == .stockFull && e.subject == 4) = false ∧
      quietShop.alarms.entries.length < 48 ∧ quietShop.alarms.reports.length < 64 ∧
      64 ≤ choked.alarms.reports.length := by decide +kernel
/-- With the table full, TOOL_LOW of the same priority displaces nothing. -/
theorem witness_RaiseCountsCreatesDisplacesOrDrops_not_kept :
    (crowded.alarms.entries.any fun e => e.kind == .toolLow && e.subject == 4) = false ∧
      48 ≤ crowded.alarms.entries.length ∧
      (crowded.alarms.entries.all fun e => !decide (e.priority < (crowded.alarms.entryOf .toolLow).priority)) = true := by
  decide +kernel
/-- With the table full, STOCK_FULL displaces the oldest entry of priority 2. -/
theorem witness_RaiseCountsCreatesDisplacesOrDrops_displaced :
    (crowded.alarms.entries.any fun e => e.kind == .stockFull && e.subject == 4) = false ∧
      48 ≤ crowded.alarms.entries.length ∧ crowded.alarms.actionOf .remnantScrapped = .report ∧
      (crowded.alarms.entries.all fun e => decide (e.priority = 2)) = true ∧
      2 < (crowded.alarms.entryOf .stockFull).priority ∧ (∃ e ∈ crowded.alarms.entries, e.subject = 0) ∧
      ((crowded.raise .stockFull 4).alarms.entries.all fun f => f.kind != .remnantScrapped || f.subject != 0) = true := by
  decide +kernel

theorem witness_LinePortFollowsItsFrames_begin :
    (held quietShop .poll 1 (.window false) none).quiet = true ∧
      (held quietShop .poll 1 (.window false) none).line.receiving = none ∧
      (held quietShop .poll 1 (.window false) none).line.holder ≠ .free := by decide +kernel
/-- The line with the part's frame going out. -/
def going (s : State) : State := { s with line := { s.line with out := some [90#8] } }
/-- A broadcast whose frame is going out, with one expected cutter. -/
def hailing : Broadcast :=
  { kind := .hold, begun := true, slots := [⟨1, 1⟩], missed := [], attempts := 0, removed := [], rebound := [] }
theorem witness_LinePortFollowsItsFrames_sent :
    (going (held quietShop .poll 1 .sending none)).quiet = true ∧
      (going (held quietShop .poll 1 .sending none)).line.out = some [90#8] ∧
      (going (held quietShop .poll 1 .sending none)).line.holder =
        .tx { kind := .poll, address := 1, phase := .sending } ∧
      (going (held quietShop .poll 1 (.closing .unanswered) none)).quiet = true ∧
      (going (held quietShop .poll 1 (.closing .unanswered) none)).line.holder =
        .tx { kind := .poll, address := 1, phase := .closing .unanswered } := by decide +kernel
theorem witness_LinePortFollowsItsFrames_broadcast :
    let s : State := going { quietShop with line := { quietShop.line with holder := .frame, broadcast := some hailing } }
    s.quiet = true ∧ s.line.out = some [90#8] ∧ s.line.holder = .frame ∧ s.line.broadcast = some hailing ∧
      hailing.slots = ⟨1, 1⟩ :: [] := by decide +kernel
/-- The last slot of a broadcast, with its window as given; and the line free for the addressed retries. -/
def slotOpen (receiving : Option Bool) (expired : Bool) : State :=
  { quietShop with line := { quietShop.line with
      holder := .slot ⟨1, 1⟩ expired, receiving := receiving, broadcast := some { hailing with slots := [] } } }
def retrying (missed : List SlotRef) : State :=
  { quietShop with line := { quietShop.line with
      broadcast := some { hailing with slots := [], missed := missed }, pendingBroadcast := some .resume } }
theorem witness_LinePortFollowsItsFrames_slots :
    (slotOpen (some true) true).quiet = true ∧ (slotOpen none false).quiet = true ∧
      (slotOpen none false).line.holder = .slot ⟨1, 1⟩ false ∧
      (slotOpen none false).line.broadcast = some { hailing with slots := [] } ∧
      (slotOpen none false).stationIs 1 .cutter = true ∧
      (retrying [⟨1, 1⟩]).line.holder = .free ∧ (retrying [⟨1, 1⟩]).cutterStands ⟨1, 1⟩ = true ∧
      (retrying [⟨4, 4⟩]).cutterStands ⟨4, 4⟩ = false ∧
      (retrying []).line.broadcast = some { hailing with slots := [] } := by decide +kernel
/-- R142: cutter 1 is removed and defined anew under its number and address while its slot is open: the slot is no longer
its own, an ACK in it is told to no cutter, and missed it lists none. A cutter bound elsewhere and back fares the same. -/
def redefinedInSlot (receiving : Option Bool) (expired : Bool) : State :=
  ((slotOpen receiving expired).removeCutter 1).putCutter (saw .idle none [])
def reboundInSlot (receiving : Option Bool) : State :=
  let s := (slotOpen receiving false).redefineCutter (saw .idle none []) 9 .blade settings
  s.redefineCutter { saw .idle none [] with address := 9 } 1 .blade settings
theorem test_slot_of_a_cutter_gone :
    (redefinedInSlot none false).cutter? 1 = some (saw .idle none []) ∧
      (reboundInSlot none).cutter? 1 = some (saw .idle none []) ∧
      ((nextOf (exec (.floorAck 1) (slotOpen (some true) false))).cutter? 1).map Cutter.holdMark = some true ∧
      ((nextOf (exec (.floorAck 1) (redefinedInSlot (some true) false))).cutter? 1).map Cutter.holdMark = some false ∧
      ((nextOf (exec (.floorAck 1) (reboundInSlot (some true)))).cutter? 1).map Cutter.holdMark = some false ∧
      (redefinedInSlot none false).windowExpires.line.broadcast.map Broadcast.missed = some [] ∧
      (reboundInSlot none).windowExpires.line.broadcast.map Broadcast.missed = some [] := by decide +kernel
/-- CUTTER and its removal stand next while the broadcast holds the line. -/
theorem witness_CutterIsDefinedOrChanged_in_broadcast :
    let s := slotOpen none false
    ReadyAt (cutterItem 1 9) .table s ∧ (before (cutterItem 1 9) s).cutter? 1 = some (saw .idle none []) ∧
      ((before (cutterItem 1 9) s).cutting.cutters.any fun c => c.address == 9 && c.number != 1) = false ∧
      ReadyAt (.cutterRemove 1) .table s ∧ (before (.cutterRemove 1) s).line.holder ≠ .free ∧
      (before (.cutterRemove 1) s).line.broadcast.isSome = true := by decide +kernel
/-- R143: the retry of a removed cutter is not sent to the one defined anew, and its ACK is told to no cutter. -/
theorem test_retry_of_a_cutter_gone :
    ((retrying [⟨1, 1⟩]).removeCutter 1 |>.putCutter (saw .idle none [])).cutterStands ⟨1, 1⟩ = false ∧
      (((((retrying [⟨1, 1⟩]).removeCutter 1).putCutter (saw .idle none [])).retryAcked ⟨1, 1⟩).cutter? 1).map
        Cutter.holdMark = some false := by decide +kernel
/-- R142: the missed cutter is on the missed list after its slot. -/
theorem test_slot_missed :
    ((slotOpen none false).windowExpires.line.broadcast.map Broadcast.missed) = some [⟨1, 1⟩] := by decide +kernel
theorem witness_LinePortFollowsItsFrames_closing :
    (going (held quietShop .poll 4 (.closing .unanswered) none)).quiet = true ∧
      (going (held quietShop .poll 4 (.closing .unanswered) none)).station? 4 = some (station 4 .reader) ∧
      (going (held quietShop (.scanPoll 0 0 1) 24 (.closing .unanswered) none)).quiet = true := by decide +kernel
theorem witness_SilentStationCountsAFailure :
    let s := held quietShop .poll 1 (.window false) none
    let t := held quietShop .poll 1 (.window false) (some true)
    s.quiet = true ∧ s.station? 1 = some (station 1 .cutter) ∧ (station 1 .cutter).failures < 2 ∧
      s.line.receiving = none ∧ t.quiet = true ∧ t.station? 1 = some (station 1 .cutter) ∧
      t.line.receiving = some true := by decide +kernel
theorem witness_SilentStationCountsAFailure_reader :
    let s := held quietShop .poll 4 (.window false) none
    s.quiet = true ∧ s.station? 4 = some (station 4 .reader) ∧ (station 4 .reader).failures < 2 ∧
      s.line.receiving = none := by decide +kernel
theorem witness_ThirdFailureLosesTheStation :
    let st := { station 1 .cutter with failures := 2 }
    let lost := { station 1 .cutter with failures := 3, link := .unreachable }
    (quietShop.putStation st).station? 1 = some st ∧ 2 ≤ st.failures ∧ st.link ≠ .unreachable ∧
      (quietShop.putStation st).cutterAt 1 = some (saw .idle none []) ∧ st.kind = .cutter ∧
      (quietShop.putStation lost).station? 1 = some lost ∧ lost.link = .unreachable := by decide +kernel

/-- The START of record 0, attempted once, at the head of the queue, with its answer coming in. -/
def startSent (c : Cutter) (orphan : Bool) : State :=
  let s := held (bedShop .issued c [record .sent]) .command 1 (.window false) (some true)
  { s with line := { s.line with queue := [{ kind := .start 0, onCutter := 1, attempts := 3, body := [], orphan := orphan }] } }
theorem witness_AttemptsAreRuledByAckAndNak :
    let c := saw .working (some 11) [0]
    let s := startSent c false
    s.quiet = true ∧ s.line.receiving = some true ∧
      s.line.holder = .tx { kind := .command, address := 1, phase := .window false } ∧
      s.station? 1 = some (station 1 .cutter) ∧
      s.line.queue = { kind := .start 0, onCutter := 1, attempts := 3, body := [], orphan := false } :: [] ∧ s.cutter? 1 = some c ∧
      s.record? 0 = some (record .sent) ∧ (record .sent).onCutter = 1 ∧ (record .sent).state = .sent := by decide +kernel
/-- An ABORT in flight, and an addressed retry with the attempts given, each with its answer coming in. -/
def abortSent : State :=
  let s := held quietShop .command 1 (.window false) (some true)
  { s with line := { s.line with queue := [{ kind := .abort, onCutter := 1, attempts := 1, body := [1#8], orphan := false }] } }
def retrySent (attempts : Nat) : State :=
  let s := held (bedShop .issued (saw .working (some 11) [0]) [record .executing]) (.retry ⟨1, 1⟩) 1 (.window false)
    (some true)
  { s with line := { s.line with
      broadcast := some { hailing with slots := [], missed := [⟨1, 1⟩], attempts := attempts } } }
theorem witness_AttemptsAreRuledByAckAndNak_others :
    abortSent.quiet = true ∧ abortSent.station? 1 = some (station 1 .cutter) ∧
      abortSent.line.queue = { kind := .abort, onCutter := 1, attempts := 1, body := [1#8], orphan := false } :: [] ∧
      (retrySent 2).quiet = true ∧ (retrySent 2).station? 1 = some (station 1 .cutter) ∧
      2 ≤ (retrySent 2).line.active.retries ∧ (retrySent 3).line.active.retries < 3 ∧
      (retrySent 3).cutter? 1 = some (saw .working (some 11) [0]) ∧
      (retrySent 3).record? 0 = some (record .executing) := by decide +kernel
/-- R57: the same START when its record has ended, and the id stands again in another SENT record of the cutter. -/
theorem witness_AttemptsAreRuledByAckAndNak_orphan :
    let s := startSent (saw .working (some 11) [0]) true
    s.quiet = true ∧ s.line.receiving = some true ∧
      s.line.holder = .tx { kind := .command, address := 1, phase := .window false } ∧
      s.station? 1 = some (station 1 .cutter) ∧
      s.line.queue = { kind := .start 0, onCutter := 1, attempts := 3, body := [], orphan := true } :: [] := by
  decide +kernel
/-- R57, R62: a record's end marks its START that has had an attempt; ACK and the last NAK of it touch no record. -/
theorem test_orphan_start :
    let c := saw .working (some 11) [0]
    (((startSent c false).endRecord (record .sent) (.failed .unreachable) true).line.queue.map Command.orphan) = [true] ∧
      (nextOf (exec (.floorAck 1) (startSent c true))).record? 0 = some (record .sent) ∧
      (nextOf (exec (.floorNak 1) (startSent c true))).line.reports = [] ∧
      (nextOf (exec (.floorNak 1) (startSent c false))).line.reports = [.startFailed 1 0] := by decide +kernel
/-- R143: a retry whose every attempt is answered by NAK makes the station UNREACHABLE and reports its cutter. -/
theorem test_retry_fails :
    let t := ((retrySent 3).hunt.txNothing { kind := .retry ⟨1, 1⟩, address := 1, phase := .window false })
    t.isLost 1 = true ∧ t.line.reports = [.unreachable 1] ∧
      t.alarms.entries.map AlarmEntry.kind = [.holdUnacked, .stationUnreachable] := by decide +kernel

/-- The saw polled with its answer coming in, its record 0 in the state given. -/
def sawPolled (c : Cutter) (st : RecordState) : State :=
  held (bedShop .issued c [record st]) .poll 1 (.window false) (some true)
/-- No live record takes a completion with the echo. -/
abbrev Unclaimed (live : List CutRecord) (e : Echo) : Prop :=
  (∀ q ∈ live, q.state = .executing ∨ q.state = .held → q.echo ≠ e) ∧
    (∀ q ∈ live, q.state = .sent → q.echo = e → ∃ p ∈ live, p.state = .executing ∨ p.state = .held)
/-- The saw with a last taken echo and the same uncertain echo twice. -/
def recallingSaw : Cutter :=
  { saw .working (some 11) [0] with
    lastTaken := some ⟨1, 11, 2⟩, uncertain := [⟨⟨2, 11, 3⟩, 1, .timedOut⟩, ⟨⟨2, 11, 3⟩, 1, .failed .aborted⟩] }
theorem witness_CompletionsAreClassedByEcho :
    let c := recallingSaw
    let s := sawPolled c .executing
    s.quiet = true ∧ s.line.receiving = some true ∧
      s.line.holder = .tx { kind := .poll, address := 1, phase := .window false } ∧
      s.station? 1 = some (station 1 .cutter) ∧ s.cutterAt 1 = some c ∧ s.cutter? c.number = some c ∧
      s.liveOf c = [record .executing] ∧ (record .executing).onCutter = c.number ∧
      (record .executing).echo = ⟨0, 11, 1⟩ ∧ s.slab? 11 = some (slab 11 (some 9000) (.onBed 1 1)) ∧
      c.lastTaken = some ⟨1, 11, 2⟩ ∧ c.lastTaken ≠ some ⟨2, 11, 3⟩ ∧
      c.uncertain = [] ++ ⟨⟨2, 11, 3⟩, 1, .timedOut⟩ :: [⟨⟨2, 11, 3⟩, 1, .failed .aborted⟩] ∧
      c.lastTaken ≠ some ⟨0, 11, 2⟩ ∧ (∀ x ∈ c.uncertain, x.echo ≠ ⟨0, 11, 2⟩) := by decide +kernel
theorem witness_CompletionsAreClassedByEcho_unclaimed :
    Unclaimed [record .executing] ⟨1, 11, 2⟩ ∧ Unclaimed [record .executing] ⟨2, 11, 3⟩ ∧
      Unclaimed [record .executing] ⟨0, 11, 2⟩ ∧ ¬Unclaimed [record .executing] ⟨0, 11, 1⟩ := by
  simp only [Unclaimed]; decide +kernel
theorem witness_CompletionsAreClassedByEcho_sent :
    let s := sawPolled recallingSaw .sent
    s.quiet = true ∧ s.line.receiving = some true ∧ s.cutterAt 1 = some recallingSaw ∧
      s.cutter? recallingSaw.number = some recallingSaw ∧ s.liveOf recallingSaw = [record .sent] ∧
      (record .sent).state = .sent := by decide +kernel
/-- R46, R67: 100 mm through 30 mm of stone and 3 mm of overcut take 3,300 mm² of the tool's life. -/
theorem test_completion_wears :
    let t := nextOf (exec (.completionAnswer 1 0 11 1 1 1 100 60 5 []) (sawPolled recallingSaw .executing))
    (t.cutter? 1).map (fun c => (c.life, c.lastTaken)) = some (596700, some ⟨0, 11, 1⟩) ∧ t.record? 0 = none := by
  decide +kernel

/-- The part after power-on with a command waiting. -/
def started : State := { State.reset with pending := [.timeBaseSecond] }
theorem witness_Kept_conditions :
    AlarmTablesHold started ∧ LineHoldFollows started ∧ TableStaysReachable started ∧ BufferHolds started ∧
      QueueHolds started ∧ StockHolds started := by
  unfold AlarmTablesHold LineHoldFollows TableStaysReachable BufferHolds QueueHolds StockHolds
  decide +kernel
theorem witness_Kept_jobs : JobsBalanced started := by
  unfold JobsBalanced Job.balanced
  decide +kernel
theorem witness_Kept_step : ∃ t, step started = .next t := ⟨_, rfl⟩
theorem witness_ItemsReadBackAsWritten :
    Instr.wf (.cutter 255 255 255 255 255 65535 65535 65535 65535 4294967295 4294967295 4294967295) = true ∧
      (encodeItem (.cutter 255 255 255 255 255 65535 65535 65535 65535 4294967295 4294967295 4294967295)).isSome = true := by
  decide +kernel

end Sys2Proof.Tests
end

section
/-! PROOFS. The stock table and the remnant rack (spec/01), the READ items, and the part after power-on. -/

namespace Sys2Proof.Machine

/-! ### Items that stand next -/

/-- A refused item gets its code and changes nothing (R151, R166). -/
theorem itemStep_refuses {s : State} {i : Instr} {area : Area} {h : InHand} {rest : List RawItem} {o : Origin}
    {code : ResultCode} {owner : Origin → State → Owned} (hr : Ready s i area h rest o)
    (e : owner o s = .refused code) :
    Answered s (s.itemStep i area owner) h rest ⟨code, []⟩ ∧ Unchanged [] s (s.itemStep i area owner) := by
  rw [itemStep_refused hr e]
  exact ⟨answered_replied rfl, unchanged_replied (.rfl' s) rfl (.inl List.not_mem_nil)⟩

/-- A command that is an item, taken: its owner's state with the answer written (R151). -/
theorem exec_of_taken {s t : State} {i : Instr} {area : Area} {h : InHand} {rest : List RawItem} {o : Origin}
    {code : ResultCode} {data : List Byte} {owner : Origin → State → Owned}
    (hx : exec i s = .next (s.itemStep i area owner)) (hr : Ready s i area h rest o)
    (e : owner o s = .taken code data t) : exec i s = .next (replied t h rest code data) := by
  rw [hx, itemStep_taken hr e]

/-- The slab an item names is in range and stands: its owner goes on with the record (R155, R166). -/
theorem needSlab_found {s : State} {operand : Option Nat} {ctx : Context} {also : Bool} {k : Slab → Owned} {id : Nat}
    {sl : Slab} (hc : orContext operand ctx.slab = some id) (hr : slabRange id = true) (ha : also = true)
    (hs : s.slab? id = some sl) : needSlab s operand ctx also k = k sl := by
  simp [needSlab, hc, hr, ha, hs]

/-- The cutter an item names is in range and defined: its owner goes on with the record (R155, R166). -/
theorem needCutter_found {s : State} {operand : Option Nat} {ctx : Context} {k : Cutter → Owned} {n : Nat} {c : Cutter}
    (hc : orContext operand ctx.onCutter = some n) (hr : cutterRange n = true) (hs : s.cutter? n = some c) :
    needCutter s operand ctx k = k c := by
  simp [needCutter, hc, hr, hs]

/-- The job an item names is in range: its owner goes on with the number (R155, R166). -/
theorem needJob_found {operand : Option Nat} {ctx : Context} {also : Bool} {k : Nat → Owned} {n : Nat}
    (hc : orContext operand ctx.job = some n) (hr : jobRange n = true) (ha : also = true) :
    needJob operand ctx also k = k n := by
  simp [needJob, hc, hr, ha]

/-- What is no more than another stock table leaves every other part as it was. -/
theorem unchanged_setStock (s : State) (x : Stock) : Unchanged [.stock] s (s.setStock x) := by
  intro p hp
  cases p <;> simp_all [Part.same]

/-- An item that writes the stock table alone, taken: its answer is written and every other part is as it was. -/
theorem stockItem_taken (s : State) (x : Stock) (h : InHand) (rest : List RawItem) (d : List Byte) :
    Answered s (replied (s.setStock x) h rest .ok d) h rest ⟨.ok, d⟩ ∧
      Unchanged [.stock] s (replied (s.setStock x) h rest .ok d) :=
  ⟨answered_replied rfl, unchanged_replied (unchanged_setStock s x) rfl (.inl (by decide))⟩

/-! ### After power-on -/

/-- A job that the power-on table holds: job 0 OPEN, the others CLOSED, with nothing summed (R75). -/
theorem job_reset {n : Nat} (h : n ≤ 63) :
    State.reset.job n = Job.fresh n (if n = 0 then .opened else .closed) := by
  have number : (List.range 64).find? (fun m => m == n) = some n := by
    rw [List.find?_range_eq_some]
    exact ⟨by simp, by simpa using Nat.lt_succ_of_le h, fun j hj => by simp [Nat.ne_of_lt hj]⟩
  have found : lookup Job.number n Cost.resetJobs = some (Job.fresh n (if n = 0 then .opened else .closed)) := by
    rw [lookup, Cost.resetJobs, List.find?_map]
    exact congrArg _ number
  exact congrArg (Option.getD · _) found

/-- Settles O2: POWER_ON is `State.reset` by definition, and its tables read off as the rules give them. -/
theorem powerOnBringsReset : Obligations.PowerOnBringsReset := by
  have jobs : ∀ n, n ≤ 63 → (State.reset.job n).state = (if n = 0 then .opened else .closed) ∧
      (State.reset.job n).quote = none ∧ (State.reset.job n).total = 0 ∧ (State.reset.job n).pieces = 0 := by
    intro n hn
    rw [job_reset hn]
    exact ⟨rfl, rfl, rfl, rfl⟩
  exact ⟨fun _ => rfl, rfl, rfl, rfl, rfl, rfl, rfl, rfl, rfl, rfl, rfl, rfl, jobs, rfl, rfl, rfl, rfl, rfl, rfl, rfl, rfl,
    rfl, rfl, rfl, rfl, rfl, rfl, rfl, rfl, rfl, rfl, rfl, rfl, rfl⟩

/-- A job with nothing summed is balanced (R75, R90). -/
theorem balanced_fresh (n : Nat) (st : JobState) : (Job.fresh n st).balanced := by
  simp [Job.balanced, Job.fresh]

theorem jobsBalanced_reset : JobsBalanced State.reset := by
  intro j hj
  obtain ⟨n, -, rfl⟩ := List.mem_map.1 hj
  exact balanced_fresh n _

/-- With no alarm pending and the default actions, the alarm unit's tables are within their rules (R167, R169, R176). -/
theorem alarmTablesHold_reset : AlarmTablesHold State.reset := by
  simp [AlarmTablesHold, State.reset, Alarms.defaultActions, AlarmKind.all]

/-- Settles O54: one condition after another, each on the power-on values of its block. -/
theorem resetMeetsEveryCondition : Obligations.ResetMeetsEveryCondition :=
  have hold : LineHoldFollows State.reset := ⟨rfl, rfl⟩
  have origins : TableStaysReachable State.reset := ⟨rfl, by simp [State.reset, Origin.first]⟩
  have buffer : BufferHolds State.reset := Nat.zero_le 4
  have stock : StockHolds State.reset := ⟨Nat.zero_le 256, .nil⟩
  have queue : QueueHolds State.reset := Nat.zero_le 16
  ⟨alarmTablesHold_reset, hold, origins, jobsBalanced_reset, buffer, stock, queue⟩

/-! ### READ items -/

/-- Settles O13: each owner finds its record and answers its bytes. -/
theorem readsReturnTheirRecords : Obligations.ReadsReturnTheirRecords := by
  intro s h rest o
  refine ⟨?slab, ?plan, ?cutter, ?channel, ?job, ?roster, ?water, ?alarms⟩
  case slab =>
    intro slab id sl hr hc hrange hs
    exact exec_of_taken (owner := readSlabItem slab) rfl hr (needSlab_found hc hrange rfl hs)
  case plan =>
    intro slab id sl p hr hc hrange hs hp
    have owned : readPlanItem slab o s = .okWith (p.bytes (s.kerfInUse sl p)) s := by
      rw [readPlanItem, needSlab_found hc hrange rfl hs, slab_key hs, hp, need_some]
    exact exec_of_taken (owner := readPlanItem slab) rfl hr owned
  case cutter =>
    intro number n c hr hc hrange hs
    exact exec_of_taken (owner := readCutterItem number) rfl hr (needCutter_found hc hrange hs)
  case channel =>
    intro n ch hr hrange hs
    have owned : readChannelItem n o s = .okWith (s.channelBytes ch) s := by
      rw [readChannelItem, hrange, hs, ensure_true, need_some]
    exact exec_of_taken (owner := readChannelItem n) rfl hr owned
  case job =>
    intro job n hr hc hrange
    exact exec_of_taken (owner := readJobItem job) rfl hr (needJob_found hc hrange rfl)
  case roster => exact fun hr => exec_of_taken (owner := readRosterItem) rfl hr rfl
  case water => exact fun hr => exec_of_taken (owner := readWaterItem) rfl hr rfl
  case alarms => exact fun hr => exec_of_taken (owner := readAlarmsItem) rfl hr rfl

/-! ### The limits -/

/-- A command that is an item with one check: taken when it holds, refused BAD_VALUE otherwise. -/
theorem exec_of_ensure {s t : State} {i : Instr} {area : Area} {h : InHand} {rest : List RawItem} {o : Origin}
    {b : Bool} {P : Prop} [Decidable P] {owner : Origin → State → Owned}
    (hx : exec i s = .next (s.itemStep i area owner)) (hr : Ready s i area h rest o)
    (e : owner o s = ensure b .badValue (.ok t)) (hb : b = true ↔ P) :
    exec i s = .next (if P then replied t h rest .ok [] else replied s h rest .badValue []) := by
  rw [hx]
  by_cases hp : P
  · rw [if_pos hp, itemStep_taken hr (by rw [e, hb.2 hp]; rfl)]
  · have hf : b = false := by simpa [hp] using hb
    rw [if_neg hp, itemStep_refused hr (by rw [e, hf, ensure_false])]

/-- Settles O22: each of the two items has one check, its range. -/
theorem limitItemsAreSetOrRefused : Obligations.LimitItemsAreSetOrRefused := by
  constructor
  · intro s h rest o w l hr
    exact exec_of_ensure (owner := remnantLimitsItem w l) rfl hr rfl (by simp [within, and_assoc])
  · intro s h rest o mm hr
    exact exec_of_ensure (owner := toleranceItem mm) rfl hr rfl (by simp)

/-! ### Items that rewrite one slab record -/

/-- A slab record rewritten and the item answered: the other records, the recency order, the next-id value and the remnant
minimums are as they were, and so is every other part. -/
theorem putSlab_replied (s : State) (x : Slab) (h : InHand) (rest : List RawItem) (d : List Byte) :
    (replied (s.putSlab x) h rest .ok d).slab? x.id = some x ∧
      (∀ k, k ≠ x.id → (replied (s.putSlab x) h rest .ok d).slab? k = s.slab? k) ∧
      (replied (s.putSlab x) h rest .ok d).stock.recency = s.stock.recency ∧
      (replied (s.putSlab x) h rest .ok d).stock.nextId = s.stock.nextId ∧
      (replied (s.putSlab x) h rest .ok d).stock.minWidth = s.stock.minWidth ∧
      (replied (s.putSlab x) h rest .ok d).stock.minLength = s.stock.minLength ∧
      Answered s (replied (s.putSlab x) h rest .ok d) h rest ⟨.ok, d⟩ ∧
      Unchanged [.stock] s (replied (s.putSlab x) h rest .ok d) := by
  refine ⟨by simp, fun k hk => by simp [hk.symm], ?_, ?_, ?_, ?_, stockItem_taken s _ h rest d⟩ <;>
    rw [replied_stock] <;> rfl

/-- Settles O17: the owner finds the slab, and PRICE rewrites its record alone. -/
theorem priceSetsBasisAndLot : Obligations.PriceSetsBasisAndLot := by
  intro s h rest o slab basis lot id sl hr hc hrange hb hl hs
  obtain rfl := slab_key hs
  have inRange : (decide (basis ≤ 1000000) && inRange (within 0 255) lot) = true := by
    cases lot <;> simp_all [inRange, within]
  exact ⟨_, exec_of_taken (owner := priceItem slab basis lot) rfl hr (needSlab_found hc hrange inRange hs),
    putSlab_replied s { sl with basis := some basis, lot := lot.getD sl.lot } h rest []⟩

/-! ### RESERVE (R7) -/

/-- RESERVE touches a remnant, and leaves the next-id value and the remnant minimums (R7, R12). -/
theorem reserved_stock (s : State) (sl : Slab) (j : Nat) :
    (s.reserved sl j).stock =
      { s.stock with
        slabs := put Slab.id { sl with state := .reserved j } s.stock.slabs
        recency := if sl.remnant.isSome then sl.id :: s.stock.recency.filter (· != sl.id) else s.stock.recency } := by
  unfold State.reserved
  dsimp only
  split <;> rfl

@[simp] theorem reserved_slab? (s : State) (sl : Slab) (j k : Nat) :
    (s.reserved sl j).slab? k = if sl.id = k then some { sl with state := .reserved j } else s.slab? k := by
  rw [State.slab?, reserved_stock]
  exact slab_putSlab s { sl with state := .reserved j } k

/-- RESERVE writes the stock table alone. -/
theorem reserved_eq_setStock (s : State) (sl : Slab) (j : Nat) :
    s.reserved sl j = s.setStock (s.reserved sl j).stock := by
  unfold State.reserved
  dsimp only
  split <;> rfl

/-- Settles O18: a case for each row of the table of R7. -/
theorem reserveChecksInOrder : Obligations.ReserveChecksInOrder := by
  intro s h rest o slab job hr
  refine ⟨s.itemStep (.reserve slab job) .stock (reserveItem slab job), rfl, ?_⟩
  cases hi : orContext slab o.ctx.slab with
  | none => exact itemStep_refuses hr (by simp only [reserveItem, hi, need_none])
  | some id =>
  cases hj : orContext job o.ctx.job with
  | none => exact itemStep_refuses hr (by simp only [reserveItem, hi, hj, need_some, need_none])
  | some j =>
  dsimp only
  by_cases hrange : 63 < j
  · rw [if_pos hrange]
    have outOfRange : jobRange j = false := decide_eq_false (Nat.not_le.2 hrange)
    exact itemStep_refuses hr (by simp only [reserveItem, hi, hj, need_some, outOfRange, ensure_false])
  rw [if_neg hrange]
  have inRange : jobRange j = true := decide_eq_true (Nat.not_lt.1 hrange)
  cases hs : s.slab? id with
  | none => exact itemStep_refuses hr (by simp only [reserveItem, hi, hj, need_some, inRange, ensure_true, hs, need_none])
  | some sl =>
  obtain rfl := slab_key hs
  have found : reserveItem slab job o s = ensure sl.isStocked .wrongState
      (ensure sl.basis.isSome .noBasis (ensure (s.jobOpen j) .jobClosed (.ok (s.reserved sl j)))) := by
    simp only [reserveItem, hi, hj, need_some, inRange, ensure_true, hs]
  dsimp only
  by_cases hstate : sl.state = .stocked
  case neg =>
    rw [if_pos hstate]
    have unstocked : sl.isStocked = false := beq_eq_false_iff_ne.2 hstate
    exact itemStep_refuses hr (by rw [found, unstocked, ensure_false])
  rw [if_neg fun h => h hstate]
  have stocked : sl.isStocked = true := beq_iff_eq.2 hstate
  by_cases hbasis : sl.basis = none
  · rw [if_pos hbasis]
    have unpriced : sl.basis.isSome = false := by rw [hbasis, Option.isSome_none]
    exact itemStep_refuses hr (by rw [found, stocked, unpriced, ensure_true, ensure_false])
  rw [if_neg hbasis]
  have priced : sl.basis.isSome = true := Option.isSome_iff_ne_none.2 hbasis
  by_cases hopen : (s.job j).state = .opened
  case neg =>
    rw [if_pos hopen]
    have closed : s.jobOpen j = false := beq_eq_false_iff_ne.2 hopen
    exact itemStep_refuses hr (by rw [found, stocked, priced, closed, ensure_true, ensure_true, ensure_false])
  rw [if_neg fun h => h hopen]
  have opened : s.jobOpen j = true := beq_iff_eq.2 hopen
  have owned : reserveItem slab job o s = .ok (s.reserved sl j) := by
    rw [found, stocked, priced, opened, ensure_true, ensure_true, ensure_true]
  rw [itemStep_taken hr owned]
  obtain ⟨answered, unchanged⟩ := stockItem_taken s (s.reserved sl j).stock h rest []
  rw [← reserved_eq_setStock] at answered unchanged
  refine ⟨answered, by simp, fun k hk => by simp [hk.symm], ?_, ?_, ?_, ?_, unchanged⟩ <;>
    rw [replied_stock, reserved_stock]

/-! ### RELEASE (R8) -/

/-- Settles O19: refused at the first check that fails, else the record is rewritten alone. -/
theorem releaseReturnsAPlanlessSlab : Obligations.ReleaseReturnsAPlanlessSlab := by
  intro s h rest o slab hr
  refine ⟨s.itemStep (.release slab) .stock (releaseItem slab), rfl, ?_⟩
  cases hi : orContext slab o.ctx.slab with
  | none => exact itemStep_refuses hr (by simp [releaseItem, needSlab, hi])
  | some id =>
  intro hrange
  cases hs : s.slab? id with
  | none => exact itemStep_refuses hr (by simp [releaseItem, needSlab, hi, hrange, hs])
  | some sl =>
  obtain rfl := slab_key hs
  have found : releaseItem slab o s = ensure (sl.isReserved && (s.plan? sl.id).isNone) .wrongState
      (.ok (s.putSlab { sl with state := .stocked })) := needSlab_found hi hrange rfl hs
  dsimp only
  by_cases hfree : sl.isReserved = true ∧ s.plan? sl.id = none
  · obtain ⟨reserved, planless⟩ := hfree
    rw [if_pos ⟨reserved, planless⟩, itemStep_taken hr (by rw [found, reserved, planless]; rfl)]
    exact putSlab_replied s { sl with state := .stocked } h rest []
  · have fails : (sl.isReserved && (s.plan? sl.id).isNone) = false := by
      simpa [Option.isSome_iff_ne_none] using hfree
    rw [if_neg hfree]
    exact itemStep_refuses hr (by rw [found, fails, ensure_false])

/-! ### FIND REMNANT (R14) -/

/-- A search finds nothing exactly among no candidates. -/
theorem smallest_eq_none {l : List Slab} : smallest l = none ↔ l = [] := by
  cases l with
  | nil => simp [smallest]
  | cons a l => simp only [smallest]; cases smallest l <;> simp; split <;> simp

/-- What a search finds stands behind larger slabs only, and none behind it is smaller. -/
theorem smallest_split {l : List Slab} {a : Slab} (h : smallest l = some a) :
    ∃ before after, l = before ++ a :: after ∧ (∀ q ∈ before, a.length * a.width < q.length * q.width) ∧
      ∀ q ∈ after, a.length * a.width ≤ q.length * q.width := by
  induction l generalizing a with
  | nil => cases h
  | cons b l ih =>
    cases hl : smallest l with
    | none =>
      obtain rfl := smallest_eq_none.1 hl
      obtain rfl : b = a := by simpa [smallest] using h
      exact ⟨[], [], rfl, by simp, by simp⟩
    | some c =>
      obtain ⟨before, after, rfl, larger, least⟩ := ih hl
      simp only [smallest, hl] at h
      split at h <;> obtain rfl := Option.some.inj h
      case isTrue hlt => exact ⟨b :: before, after, rfl, List.forall_mem_cons.2 ⟨hlt, larger⟩, least⟩
      case isFalse hge =>
        have hle := Nat.not_lt.1 hge
        refine ⟨[], _, rfl, by simp, fun q hq => ?_⟩
        rcases List.mem_append.1 hq with hq | hq
        · exact Nat.le_trans hle (Nat.le_of_lt (larger q hq))
        · rcases List.mem_cons.1 hq with rfl | hq
          · exact hle
          · exact Nat.le_trans hle (least q hq)

/-- What a search finds is a candidate that no other undercuts. -/
theorem smallest_le {l : List Slab} {a : Slab} (h : smallest l = some a) :
    a ∈ l ∧ ∀ q ∈ l, a.length * a.width ≤ q.length * q.width := by
  obtain ⟨before, after, rfl, larger, least⟩ := smallest_split h
  refine ⟨List.mem_append_right _ List.mem_cons_self, fun q hq => ?_⟩
  rcases List.mem_append.1 hq with hq | hq
  · exact Nat.le_of_lt (larger q hq)
  · rcases List.mem_cons.1 hq with rfl | hq
    · exact Nat.le_refl _
    · exact least q hq

/-- An element that does not stand before `k` is no nearer to the head than `k`. -/
theorem idxOf_le_of_notMem {before after : List Nat} {k j : Nat} (h : j ∉ before) :
    (before ++ k :: after).idxOf k ≤ (before ++ k :: after).idxOf j := by
  rw [List.idxOf_append, List.idxOf_append, if_neg h]
  by_cases hk : k ∈ before
  · rw [if_pos hk]
    exact Nat.le_trans (Nat.le_of_lt (List.idxOf_lt_length_of_mem hk)) (Nat.le_add_left _ _)
  · rw [if_neg hk, List.idxOf_cons_self]
    exact Nat.add_le_add_right (Nat.zero_le _) _

/-- Among the smallest slabs found for a list of ids, each under its own, a search finds the nearest to the head. -/
theorem smallest_nearest {f : Nat → Option Slab} (hf : ∀ {k x}, f k = some x → x.id = k) {l : List Nat} {a q : Slab}
    (h : smallest (l.filterMap f) = some a) (hq : q ∈ l.filterMap f) (he : q.length * q.width = a.length * a.width) :
    l.idxOf a.id ≤ l.idxOf q.id := by
  obtain ⟨before, after, split, larger, -⟩ := smallest_split h
  obtain ⟨ids, rest, rfl, hids, hrest⟩ := List.filterMap_eq_append_iff.1 split
  obtain ⟨passed, k, further, rfl, hpassed, hk, -⟩ := List.filterMap_eq_cons_iff.1 hrest
  obtain rfl := hf hk
  rw [← List.append_assoc]
  refine idxOf_le_of_notMem fun hmem => ?_
  obtain ⟨j, -, hj⟩ := List.mem_filterMap.1 hq
  obtain rfl := hf hj
  rcases List.mem_append.1 hmem with hmem | hmem
  · have inBefore : q ∈ before := hids ▸ List.mem_filterMap.2 ⟨q.id, hmem, hj⟩
    exact Nat.ne_of_gt (larger q inBefore) he
  · simp [hpassed q.id hmem] at hj

/-- A candidate is looked up and tested in one go. -/
theorem candidates_eq (s : State) (l w : Nat) (lot : Option Nat) :
    s.candidates l w lot = s.stock.recency.filterMap fun k => (s.slab? k).filter fun sl =>
      sl.isStocked && decide (l ≤ sl.length) && decide (w ≤ sl.width) && lot.all (· == sl.lot) :=
  List.filter_filterMap

/-- Among the candidates of one area FIND REMNANT chooses the nearest to the head of the recency order (R14). -/
theorem smallest_candidate_nearest {s : State} {l w : Nat} {lot : Option Nat} {sl q : Slab}
    (h : smallest (s.candidates l w lot) = some sl) (hq : q ∈ s.candidates l w lot)
    (he : q.length * q.width = sl.length * sl.width) :
    s.stock.recency.idxOf sl.id ≤ s.stock.recency.idxOf q.id := by
  rw [candidates_eq] at h hq
  exact smallest_nearest (fun hk => slab_key (Option.filter_eq_some_iff.1 hk).1) h hq he

/-- Settles O21: with nothing found the state is as it was; what is found is the smallest and nearest, and is touched. -/
theorem findRemnantChoosesTheSmallest : Obligations.FindRemnantChoosesTheSmallest := by
  intro s h rest o l w lot hr hl hl' hw hw' hlot
  have inRange : (within 1 3600 l && within 1 2100 w && inRange (within 0 255) lot) = true := by
    cases lot <;> simp_all [inRange, within]
  cases hfound : smallest (s.candidates l w lot) with
  | none =>
    have owned : findRemnantItem l w lot o s = .okWith (beField be4 none) s := by
      simp only [findRemnantItem, inRange, ensure_true, hfound]
    obtain ⟨answered, unchanged⟩ := stockItem_taken s s.stock h rest (be1 0)
    refine ⟨_, exec_of_taken (owner := findRemnantItem l w lot) rfl hr owned, ?_, unchanged, .inl ⟨?_, ?_, answered⟩⟩
    · rw [replied_stock]
    · exact smallest_eq_none.1 hfound
    · rw [replied_stock]
  | some sl =>
    have owned : findRemnantItem l w lot o s = .okWith (beField be4 (some sl.id)) (s.touch sl.id) := by
      simp only [findRemnantItem, inRange, ensure_true, hfound]
    obtain ⟨answered, unchanged⟩ := stockItem_taken s (s.touch sl.id).stock h rest (be1 1 ++ be4 sl.id)
    obtain ⟨mem, least⟩ := smallest_le hfound
    have fits : (sl.isStocked && decide (l ≤ sl.length) && decide (w ≤ sl.width) && lot.all (· == sl.lot)) = true :=
      (List.mem_filter.1 mem).2
    simp only [Bool.and_eq_true, decide_eq_true_eq, Slab.isStocked, beq_iff_eq] at fits
    obtain ⟨⟨⟨stocked, long⟩, wide⟩, -⟩ := fits
    refine ⟨_, exec_of_taken (owner := findRemnantItem l w lot) rfl hr owned, ?_, unchanged,
      .inr ⟨sl, mem, least, fun q hq he => ?_, stocked, long, wide, ?_, answered⟩⟩
    · rw [replied_stock]; rfl
    · exact smallest_candidate_nearest hfound hq he
    · rw [replied_stock]; rfl

/-! ### The report queue through the shared operations (R178) -/

/-- From `s` to `t` the report queue only grew at its tail; where it was full it is as it was, and a noted gap stays
noted (R178). -/
structure ReportsGrow (s t : State) : Prop where
  behind : ∃ more, t.alarms.reports = s.alarms.reports ++ more
  full : 64 ≤ s.alarms.reports.length →
    t.alarms.reports = s.alarms.reports ∧ (s.alarms.gapNoted = true → t.alarms.gapNoted = true)

theorem ReportsGrow.trans {s t u : State} (h : ReportsGrow s t) (k : ReportsGrow t u) : ReportsGrow s u := by
  obtain ⟨⟨m, hm⟩, hfull⟩ := h
  obtain ⟨⟨n, hn⟩, kfull⟩ := k
  refine ⟨⟨m ++ n, by rw [hn, hm, List.append_assoc]⟩, fun hl => ?_⟩
  obtain ⟨ht, hgap⟩ := hfull hl
  obtain ⟨hu, kgap⟩ := kfull (ht ▸ hl)
  exact ⟨hu.trans ht, kgap ∘ hgap⟩

theorem ReportsGrow.of_same {s t : State} (hr : t.alarms.reports = s.alarms.reports)
    (hg : t.alarms.gapNoted = s.alarms.gapNoted) : ReportsGrow s t :=
  ⟨⟨[], by simp [hr]⟩, fun _ => ⟨hr, fun h => hg.trans h⟩⟩

/-- What grew from a state with the same report queue grew from here. -/
theorem ReportsGrow.after_same {s t u : State} (k : ReportsGrow t u) (hr : t.alarms.reports = s.alarms.reports)
    (hg : t.alarms.gapNoted = s.alarms.gapNoted) : ReportsGrow s u :=
  .trans (.of_same hr hg) k

theorem queueReport_reports_of_room {s : State} (b : ReportBody) (h : s.alarms.reports.length < 64) :
    (s.queueReport b).alarms.reports =
      s.alarms.reports ++ [{ body := b, time := s.seconds, gap := s.alarms.gapNoted }] := by
  rw [queueReport_alarms, if_pos (show _ < Config.maxReports from h)]

theorem queueReport_alarms_of_full {s : State} (b : ReportBody) (h : 64 ≤ s.alarms.reports.length) :
    (s.queueReport b).alarms = { s.alarms with gapNoted := true } := by
  rw [queueReport_alarms, if_neg (show ¬_ < Config.maxReports from Nat.not_lt.2 h)]

theorem queueReport_grows (s : State) (b : ReportBody) : ReportsGrow s (s.queueReport b) := by
  rcases Nat.lt_or_ge s.alarms.reports.length 64 with h | h
  · exact ⟨⟨_, queueReport_reports_of_room b h⟩, fun h' => absurd h (Nat.not_lt.2 h')⟩
  · have e := queueReport_alarms_of_full b h
    exact ⟨⟨[], by simp [e]⟩, fun _ => by simp [e]⟩

theorem recomputeHold_grows (s : State) : ReportsGrow s s.recomputeHold := by
  unfold State.recomputeHold
  dsimp only
  split
  · exact .of_same rfl rfl
  · exact (queueReport_grows _ _).after_same (by simp) (by simp)

theorem raise_grows (s : State) (k : AlarmKind) (n : Nat) : ReportsGrow s (s.raise k n) := by
  have queued : ReportsGrow s ((s.setAlarms { s.alarms with entries := (s.alarms.raised k n s.seconds).1 }).queueReport
      (.alarm (s.alarms.raised k n s.seconds).2.1)) := (queueReport_grows _ _).after_same rfl rfl
  unfold State.raise
  dsimp only
  split
  · exact queued.trans ((recomputeHold_grows _).after_same rfl rfl)
  · exact queued

theorem addCharge_grows (s : State) (n : Nat) (c : Charge) : ReportsGrow s (s.addCharge n c) := by
  have put : ReportsGrow s (s.putJob ((s.job n).charged c)) := .of_same rfl rfl
  unfold State.addCharge
  dsimp only
  split <;> split
  · exact (put.trans (raise_grows _ _ _)).trans (raise_grows _ _ _)
  · exact put.trans (raise_grows _ _ _)
  · exact put.trans (raise_grows _ _ _)
  · exact put

/-! ### Records behind a STOCK report -/

@[simp] theorem stockReport_slab? (s : State) (e : StockEvent) (id k : Nat) : (s.stockReport e id).slab? k = s.slab? k :=
  slab_of_same (State.stockReport_stock s e id) k
@[simp] theorem stockReport_job (s : State) (e : StockEvent) (id n : Nat) : (s.stockReport e id).job n = s.job n :=
  job_of_same (State.stockReport_cost s e id) n
@[simp] theorem dropSlab_job (s : State) (id n : Nat) : (s.dropSlab id).job n = s.job n := rfl

/-! ### Charges at the other blocks (R90, R92, R93) -/

/-- A charge event touches the broadcast orders alone at the line port, through its alarms. -/
theorem addCharge_line (s : State) (n : Nat) (c : Charge) :
    ∃ b p, (s.addCharge n c).line = { s.line with broadcast := b, pendingBroadcast := p } := by
  have once : ∀ (u : State) (k : AlarmKind), (∃ b p, u.line = { s.line with broadcast := b, pendingBroadcast := p }) →
      ∃ b p, (u.raise k n).line = { s.line with broadcast := b, pendingBroadcast := p } := by
    rintro u k ⟨b, p, hu⟩
    obtain ⟨b', p', h⟩ := raise_line u k n
    exact ⟨b', p', by rw [h, hu]⟩
  have put : ∃ b p, (s.putJob ((s.job n).charged c)).line = { s.line with broadcast := b, pendingBroadcast := p } :=
    ⟨s.line.broadcast, s.line.pendingBroadcast, rfl⟩
  unfold State.addCharge
  dsimp only
  split <;> split
  · exact once _ _ (once _ _ put)
  · exact once _ _ put
  · exact once _ _ put
  · exact put

@[simp] theorem addCharge_actions (s : State) (n : Nat) (c : Charge) :
    (s.addCharge n c).alarms.actions = s.alarms.actions := by
  unfold State.addCharge; dsimp only; (repeat' split) <;> simp

/-- The charge of an area of stone, rounded half-up (R82, R88). -/
theorem charged_stone (j : Job) (area basis : Nat) :
    j.charged (.stone (materialCharge area basis)) =
      j.charged
        { material := (area * basis + 500000) / 1000000, tool := 0, water := 0, time := 0, pieces := 0, flawed := 0,
          outOfTol := 0 } := rfl

/-- A charge keeps every part that neither the jobs nor an alarm of theirs can touch. -/
theorem Unchanged.chargeStone {but : List Part} {s u : State} (hu : Unchanged but s u)
    (sub : [.cost, .entries, .gate, .floor, .reports] ⊆ but) (n a b : Nat) : Unchanged but s (u.chargeStone n a b) := by
  intro p hp
  have hs := hu p hp
  obtain ⟨x, y, hline⟩ : ∃ x y, (u.chargeStone n a b).line = { u.line with broadcast := x, pendingBroadcast := y } :=
    addCharge_line u n _
  simp only [List.cons_subset, List.nil_subset, and_true] at sub
  cases p <;> simp_all [Part.same, State.chargeStone]

/-! ### DISCARD (R9) -/

/-- The record removed and reported, before any charge. -/
theorem unchanged_removed (s : State) (id : Nat) :
    Unchanged [.stock, .cost, .entries, .gate, .floor, .reports] s ((s.dropSlab id).stockReport .removed id) := by
  intro p hp
  cases p <;> simp_all [Part.same, State.stockReport]

/-- DISCARD removes the record, reports it and charges its stone, if it has a basis. -/
theorem discarded_cases (s : State) (sl : Slab) :
    (sl.basis = none ∧ s.discarded sl = (s.dropSlab sl.id).stockReport .removed sl.id) ∨
      ∃ b, sl.basis = some b ∧ s.discarded sl =
        ((s.dropSlab sl.id).stockReport .removed sl.id).chargeStone 0 (sl.length * sl.width) b := by
  unfold State.discarded
  cases sl.basis <;> simp

theorem unchanged_discarded (s : State) (sl : Slab) :
    Unchanged [.stock, .cost, .entries, .gate, .floor, .reports] s (s.discarded sl) := by
  obtain ⟨-, e⟩ | ⟨b, -, e⟩ := discarded_cases s sl <;> rw [e]
  · exact unchanged_removed s sl.id
  · exact (unchanged_removed s sl.id).chargeStone (by decide) _ _ _

@[simp] theorem discarded_stock (s : State) (sl : Slab) : (s.discarded sl).stock = (s.dropSlab sl.id).stock := by
  obtain ⟨-, e⟩ | ⟨b, -, e⟩ := discarded_cases s sl <;> simp [e]
@[simp] theorem discarded_office (s : State) (sl : Slab) : (s.discarded sl).office = s.office := by
  obtain ⟨-, e⟩ | ⟨b, -, e⟩ := discarded_cases s sl <;> simp [e]

theorem discarded_grows (s : State) (sl : Slab) :
    ReportsGrow ((s.dropSlab sl.id).stockReport .removed sl.id) (s.discarded sl) := by
  obtain ⟨-, e⟩ | ⟨b, -, e⟩ := discarded_cases s sl <;> rw [e]
  · exact .of_same rfl rfl
  · exact addCharge_grows _ _ _

/-- Settles O20: the owner finds the slab; DISCARD's effect is the removal, the report and the charge. -/
theorem discardRemovesReportsAndCharges : Obligations.DiscardRemovesReportsAndCharges := by
  intro s h rest o slab id sl hr hc hrange hs hstate
  obtain rfl := slab_key hs
  have owned : discardItem slab o s = .ok (s.discarded sl) := by
    rw [discardItem, needSlab_found hc hrange rfl hs, Slab.isStocked, hstate]; rfl
  have slabs : ∀ k, (s.discarded sl).slab? k = if sl.id = k then none else s.slab? k := fun k =>
    (slab_of_same (discarded_stock s sl) k).trans (slab_dropSlab s sl.id k)
  refine ⟨_, exec_of_taken (owner := discardItem slab) rfl hr owned, ?_, fun k hk => ?_, ?_, ?_, fun n hn => ?_,
    answered_replied (discarded_office s sl),
    unchanged_replied (unchanged_discarded s sl) (discarded_office s sl) (.inr (by decide)), ?_, ?_, ?_,
    s.discarded sl, rfl, fun room => ?_, fun full => ?_⟩
  · simp [slabs]
  · simp [slabs, hk.symm]
  · rw [replied_stock, discarded_stock]; rfl
  · rw [replied_job]
    obtain ⟨hb, e⟩ | ⟨b, hb, e⟩ := discarded_cases s sl <;> rw [hb, e]
    · simp
    · simp [charged_stone]
  · rw [replied_job]
    obtain ⟨-, e⟩ | ⟨b, -, e⟩ := discarded_cases s sl <;> simp [e, hn.symm]
  · rw [replied_stock, discarded_stock]; rfl
  · rw [replied_stock, discarded_stock]; rfl
  · rw [replied_stock, discarded_stock]; rfl
  · obtain ⟨more, hm⟩ := (discarded_grows s sl).behind
    have reported := queueReport_reports_of_room (s := s.dropSlab sl.id) (.stock .removed sl.id) room
    refine ⟨more, ?_⟩
    rw [hm, State.stockReport, reported, List.append_assoc]
    rfl
  · have reported := queueReport_alarms_of_full (s := s.dropSlab sl.id) (.stock .removed sl.id) full
    have grows := (discarded_grows s sl).full
    rw [State.stockReport, reported] at grows
    obtain ⟨same, gap⟩ := grows full
    exact ⟨same, gap rfl⟩

/-! ### Reader scans (R3 to R5) -/

/-- What a scan leaves alone: the roster and the receiver of the floor line, the cutters and the jobs. -/
structure ScanFrame (s t : State) : Prop where
  roster : t.line.roster = s.line.roster
  receiving : t.line.receiving = s.line.receiving
  cutting : t.cutting = s.cutting
  cost : t.cost = s.cost

/-- A changed flaw list goes to the plan table and may raise an alarm; the stock table stays (R29). -/
@[simp] theorem flawsChanged_stock (s : State) (id : Nat) (old new : List Zone) :
    (s.flawsChanged id old new).stock = s.stock := by
  unfold State.flawsChanged; dsimp only; split <;> simp

theorem flawsChanged_frame (s : State) (id : Nat) (old new : List Zone) :
    ScanFrame s (s.flawsChanged id old new) := by
  unfold State.flawsChanged
  dsimp only
  split <;> constructor <;> simp

/-- A scan of a known tag replaces the record's zones by the clipped ones, and writes no other record (R5). -/
theorem rescan_stock (s : State) (sl : Slab) (d : ScanData) :
    (s.rescan sl d).stock =
      (s.putSlab { sl with zones := d.zones.filterMap fun z => zoneClip z sl.length sl.width }).stock := by
  unfold State.rescan
  dsimp only
  split <;> simp

theorem rescan_frame (s : State) (sl : Slab) (d : ScanData) : ScanFrame s (s.rescan sl d) := by
  unfold State.rescan
  dsimp only
  split
  · obtain ⟨hroster, hreceiving, hcutting, hcost⟩ := flawsChanged_frame
      ((s.putSlab { sl with zones := d.zones.filterMap fun z => zoneClip z sl.length sl.width }).stockReport .updated
        sl.id) sl.id sl.zones (d.zones.filterMap fun z => zoneClip z sl.length sl.width)
    constructor <;> simp [*]
  · constructor <;> simp

theorem scan_of_outOfRange {s : State} {a : Nat} {d : ScanData} (h : d.inRange = false) : s.scan a d = (s, true) := by
  simp [State.scan, h]

theorem scan_of_known {s : State} {a : Nat} {d : ScanData} {sl : Slab} (h : d.inRange = true)
    (hs : s.slab? d.tag = some sl) : s.scan a d = (s.rescan sl d, true) := by
  simp [State.scan, h, hs]

theorem scan_of_room {s : State} {a : Nat} {d : ScanData} (h : d.inRange = true) (hs : s.slab? d.tag = none)
    (hl : s.stock.slabs.length < 256) : s.scan a d = ((s.putSlab d.record).stockReport .created d.tag, true) := by
  simp [State.scan, h, hs, Config.maxSlabs, hl]

theorem scan_of_full {s : State} {a : Nat} {d : ScanData} (h : d.inRange = true) (hs : s.slab? d.tag = none)
    (hl : 256 ≤ s.stock.slabs.length) : s.scan a d = (s.raise .stockFull a, false) := by
  simp [State.scan, h, hs, Config.maxSlabs, Nat.not_lt.2 hl]

theorem scan_frame (s : State) (a : Nat) (d : ScanData) : ScanFrame s (s.scan a d).1 := by
  cases h : d.inRange with
  | false => rw [scan_of_outOfRange h]; constructor <;> rfl
  | true =>
  cases hs : s.slab? d.tag with
  | some sl => rw [scan_of_known h hs]; exact rescan_frame s sl d
  | none =>
  rcases Nat.lt_or_ge s.stock.slabs.length 256 with hl | hl
  · rw [scan_of_room h hs hl]; constructor <;> simp
  · rw [scan_of_full h hs hl]; constructor <;> simp

/-! ### A reader's answer (R132, R133, R139, R140) -/

/-- The line port as it hands a good answer on: hunting again, the station credited. -/
def State.credited (s : State) (st : Station) : State := s.hunt.putStation { st with failures := 0, link := .up }

@[simp] theorem credited_station? (s : State) (st : Station) :
    (s.credited st).station? st.address = some { st with failures := 0, link := .up } :=
  lookup_put_self Station.address { st with failures := 0, link := .up } _
@[simp] theorem credited_stock (s : State) (st : Station) : (s.credited st).stock = s.stock := rfl
@[simp] theorem credited_cutting (s : State) (st : Station) : (s.credited st).cutting = s.cutting := rfl
@[simp] theorem credited_cost (s : State) (st : Station) : (s.credited st).cost = s.cost := rfl
@[simp] theorem credited_slab? (s : State) (st : Station) (id : Nat) : (s.credited st).slab? id = s.slab? id := rfl

theorem creditStation_of_some {s : State} {st : Station} (h : s.station? st.address = some st) :
    s.hunt.creditStation st.address = s.credited st := by
  have hunted : s.hunt.station? st.address = some st := h
  simp [State.creditStation, hunted, State.credited]

/-- The state after the answer of the poll of an address has reached its block and the part answers it. -/
def State.pollAnswered (s : State) (a : Nat) (ack : Bool) : State :=
  (s.closeTx { kind := .poll, address := a, phase := .window false } ack .unanswered).finish

theorem pollAnswered_line (s : State) (a : Nat) (ack : Bool) :
    (s.pollAnswered a ack).line = { s.line with
      holder := .tx { kind := .poll, address := a, phase := .closing .unanswered }, out := some (ackFrame a ack) } :=
  finish_line_of_held (by simp [State.closeTx])

@[simp] theorem pollAnswered_stock (s : State) (a : Nat) (ack : Bool) : (s.pollAnswered a ack).stock = s.stock := by
  simp [State.pollAnswered]
@[simp] theorem pollAnswered_slab? (s : State) (a : Nat) (ack : Bool) (id : Nat) :
    (s.pollAnswered a ack).slab? id = s.slab? id := slab_of_same (pollAnswered_stock s a ack) id

/-- A SCAN inside the window of a reader's poll: the station is credited, the stock table has the scan, and the part
answers as it says. -/
theorem exec_scanAnswer_of_reader {s : State} {e : Bool} {st : Station} (d : ScanData) (hq : s.quiet = true)
    (hr : s.line.receiving = some true)
    (hh : s.line.holder = .tx { kind := .poll, address := st.address, phase := .window e })
    (hs : s.station? st.address = some st) (hk : st.kind = .reader) :
    exec (.scanAnswer st.address d.tag d.lot d.length d.width d.thickness d.zones) s =
      .next (((s.credited st).scan st.address d).1.pollAnswered st.address ((s.credited st).scan st.address d).2) := by
  have arrives : s.arrival st.address = .reply { kind := .poll, address := st.address, phase := .window e } := by
    simp [State.arrival, hr, hh]
  have reader : (s.credited st).stationIs st.address .reader = true := by simp [State.stationIs, hk]
  show Host.Outcome.next _ = _
  rw [settle_of_quiet hq]
  simp only [State.goodFrame, arrives, State.answered, TxKind.isPoll, if_true, creditStation_of_some hs, passScan, reader]
  rfl

/-- Settles O23: the four outcomes of a scan, each behind the same end of the transaction. -/
theorem scanOfAReaderReachesTheStock : Obligations.ScanOfAReaderReachesTheStock := by
  intro s a e st d hq hr hh hs hk
  obtain rfl := station_key hs
  obtain ⟨hroster, hreceiving, hcutting, hcost⟩ := scan_frame (s.credited st) st.address d
  have station : ∀ ack, (((s.credited st).scan st.address d).1.pollAnswered st.address ack).station? st.address =
      some { st with failures := 0, link := .up } := by
    intro ack
    have same : (((s.credited st).scan st.address d).1.pollAnswered st.address ack).line.roster =
        (s.credited st).line.roster := by rw [pollAnswered_line]; exact hroster
    rw [station_of_same same, credited_station?]
  refine ⟨_, exec_scanAnswer_of_reader d hq hr hh hs hk, ?_, ?_, ?_, ?_, ?_, ?_, ?_, ?_, ?_, ?_⟩
  · rw [pollAnswered_line]
  · rw [pollAnswered_line]; exact hreceiving
  · rw [station]; rfl
  · rw [station]; rfl
  · simpa [State.pollAnswered] using hcutting
  · simpa [State.pollAnswered] using hcost
  · intro h
    rw [scan_of_outOfRange h, pollAnswered_line]
    exact ⟨by simp, by simp [State.pollAnswered, State.credited], rfl⟩
  · intro h unknown room
    rw [scan_of_room (s := s.credited st) h unknown room, pollAnswered_line]
    have created : ∀ k, ((s.credited st).putSlab d.record).slab? k = if d.tag = k then some d.record else s.slab? k :=
      slab_putSlab (s.credited st) d.record
    refine ⟨?_, fun k hk => ?_, rfl⟩
    · show _ = some d.record
      simp [created]
    · simp [created, hk.symm]
  · intro h unknown full
    rw [scan_of_full (s := s.credited st) h unknown full, pollAnswered_line]
    refine ⟨by simp, rfl, ?_⟩
    simp [State.pollAnswered, State.credited]
  · intro sl h known
    rw [scan_of_known (s := s.credited st) h known, pollAnswered_line]
    have updated : ∀ k, ((s.credited st).rescan sl d).slab? k = if sl.id = k then
        some { sl with zones := d.zones.filterMap fun z => zoneClip z sl.length sl.width } else s.slab? k := fun k =>
      (slab_of_same (rescan_stock (s.credited st) sl d) k).trans (slab_putSlab (s.credited st) _ k)
    have key := slab_key known
    refine ⟨?_, fun k hk => ?_, rfl⟩
    · simp [updated, key]
    · simp [updated, key, hk.symm]

/-! ### The rack (R12, R13, R17) -/

theorem freeIdFrom_of_same {s t : State} (h : t.stock = s.stock) (fuel n : Nat) :
    t.freeIdFrom fuel n = s.freeIdFrom fuel n := by
  induction fuel generalizing n with
  | zero => rfl
  | succ fuel ih => simp only [State.freeIdFrom, slab_of_same h, ih]

theorem freeId_of_same {s t : State} (h : t.stock = s.stock) : t.freeId = s.freeId := by
  rw [State.freeId, h, freeIdFrom_of_same h, State.freeId]

theorem usedSlots_of_same {s t : State} (h : t.stock = s.stock) : t.usedSlots = s.usedSlots := by
  rw [State.usedSlots, h, State.usedSlots]

theorem evictable_of_same {s t : State} (h : t.stock = s.stock) : t.evictable = s.evictable := by
  have found : t.slab? = s.slab? := funext (slab_of_same h)
  rw [State.evictable, h, found, State.evictable]

/-- The id is that of a remnant that may be evicted: it stands in the stock table, STOCKED (R17). -/
def State.Evictable (s : State) (k : Nat) : Prop :=
  ∃ q, s.slab? k = some q ∧ q.state = .stocked ∧ q.remnant.isSome = true

/-- Among ids of which none may be evicted the search finds nothing. -/
theorem find_evictable_eq_none {s : State} {l : List Nat} (h : ∀ k ∈ l, ¬s.Evictable k) :
    (l.filterMap s.slab?).find? (fun sl => sl.isStocked && sl.remnant.isSome) = none := by
  rw [List.find?_eq_none]
  intro q hq hp
  obtain ⟨k, hk, hs⟩ := List.mem_filterMap.1 hq
  simp only [Slab.isStocked, Bool.and_eq_true, beq_iff_eq] at hp
  exact h k hk ⟨q, hs, hp⟩

theorem evictable_eq_none {s : State} (h : ∀ k ∈ s.stock.recency, ¬s.Evictable k) : s.evictable = none :=
  find_evictable_eq_none fun k hk => h k (List.mem_reverse.1 hk)

/-- The remnant that goes is the STOCKED one with none behind it in the recency order (R17). -/
theorem evictable_eq_some {s : State} {e : Slab} {nearer farther : List Nat} (he : s.slab? e.id = some e)
    (hs : e.state = .stocked) (hr : e.remnant.isSome = true) (hl : s.stock.recency = nearer ++ e.id :: farther)
    (hf : ∀ k ∈ farther, ¬s.Evictable k) : s.evictable = some e := by
  have behind := find_evictable_eq_none fun k hk => hf k (List.mem_reverse.1 hk)
  rw [State.evictable, hl, List.reverse_append, List.reverse_cons, List.append_assoc, List.filterMap_append,
    List.find?_append, behind]
  simp [he, hs, hr, Slab.isStocked]

/-! ### What the unload sequence is made of (R16 to R18) -/

@[simp] theorem chargeScrap_stock (s : State) (sl : Slab) (job scrap : Nat) :
    (s.chargeScrap sl job scrap).stock = s.stock := by
  unfold State.chargeScrap; split <;> simp

/-- The unload job takes the scrap at the slab's basis, and nothing for a scrap of 0 (R18, R88). -/
theorem chargeScrap_job_self (s : State) (sl : Slab) (job scrap : Nat) :
    (s.chargeScrap sl job scrap).job job = if scrap = 0 then s.job job else
      (s.job job).charged (.stone (materialCharge scrap (sl.basis.getD 0))) := by
  unfold State.chargeScrap; split <;> simp

theorem chargeScrap_job_other {s : State} {sl : Slab} {job scrap n : Nat} (h : job ≠ n) :
    (s.chargeScrap sl job scrap).job n = s.job n := by
  unfold State.chargeScrap; split <;> simp [h]

/-- The remnant that an unloaded slab leaves (R18). -/
def Slab.remnantRecord (sl : Slab) (id slot : Nat) : Slab :=
  { id := id, lot := sl.lot, length := sl.length, width := sl.geom.wr, thickness := sl.thickness, basis := sl.basis,
    state := .stocked, remnant := some { parent := sl.id, slot := slot }, zones := carriedZones sl,
    geom := Geometry.uncut sl.geom.wr }

/-- A remnant is put under the next free id, at the head of the recency order (R13, R18). -/
theorem createRemnant_stock (s : State) (sl : Slab) (slot : Nat) :
    (s.createRemnant sl slot).stock =
      { s.stock with
        slabs := put Slab.id (sl.remnantRecord s.freeId slot) s.stock.slabs
        recency := s.freeId :: s.stock.recency
        nextId := idAfter s.freeId } :=
  State.stockReport_stock _ _ _

@[simp] theorem createRemnant_job (s : State) (sl : Slab) (slot n : Nat) : (s.createRemnant sl slot).job n = s.job n :=
  stockReport_job _ _ _ n

/-- What stands after a remnant was made in a state with the stock table of `w`, and the scrap charged. -/
theorem remnant_made {v w : State} (hv : v.stock = w.stock) (sl : Slab) (slot job scrap : Nat) :
    ((v.createRemnant sl slot).chargeScrap sl job scrap).slab? w.freeId = some (sl.remnantRecord w.freeId slot) ∧
      (∀ k, k ≠ w.freeId → ((v.createRemnant sl slot).chargeScrap sl job scrap).slab? k = w.slab? k) ∧
      ((v.createRemnant sl slot).chargeScrap sl job scrap).stock.recency = w.freeId :: w.stock.recency ∧
      ((v.createRemnant sl slot).chargeScrap sl job scrap).stock.nextId = idAfter w.freeId := by
  have made := createRemnant_stock v sl slot
  rw [hv, freeId_of_same hv] at made
  have slabs : ∀ k, ((v.createRemnant sl slot).chargeScrap sl job scrap).slab? k =
      lookup Slab.id k (put Slab.id (sl.remnantRecord w.freeId slot) w.stock.slabs) := by
    intro k
    rw [State.slab?, chargeScrap_stock, made]
  refine ⟨?_, fun k hk => ?_, ?_, ?_⟩
  · rw [slabs]
    exact lookup_put_self Slab.id (sl.remnantRecord w.freeId slot) _
  · rw [slabs]
    exact lookup_put_other Slab.id (sl.remnantRecord w.freeId slot) _ hk.symm
  · rw [chargeScrap_stock, made]
  · rw [chargeScrap_stock, made]

/-- An eviction takes the record and its place in the recency order away, and writes no other record (R17). -/
@[simp] theorem evict_stock (s : State) (e : Slab) : (s.evict e).stock = (s.dropSlab e.id).stock := by
  simp [State.evict]

/-- The stone of an evicted remnant goes to job 0 (R17, R88). -/
theorem evict_job (s : State) (e : Slab) (n : Nat) :
    (s.evict e).job n = if n = 0 then (s.job 0).charged (.stone (materialCharge (e.length * e.width) (e.basis.getD 0)))
      else s.job n := by
  have charged : (s.evict e).cost = ((s.dropSlab e.id).chargeStone 0 (e.length * e.width) (e.basis.getD 0)).cost := by
    simp [State.evict]
  rw [job_of_same charged, chargeStone_job]
  simp [eq_comm]

/-! ### The four ends of an unload (R16 to R18) -/

/-- The slab's record removed and reported: the state the rest of the unload sequence starts from (R16). -/
def State.cleared (s : State) (sl : Slab) : State := (s.dropSlab sl.id).stockReport .removed sl.id

theorem removed_eq_cleared (s : State) (sl : Slab) : (s.dropSlab sl.id).stockReport .removed sl.id = s.cleared sl := rfl
@[simp] theorem cleared_stock (s : State) (sl : Slab) : (s.cleared sl).stock = (s.dropSlab sl.id).stock :=
  State.stockReport_stock _ _ _
@[simp] theorem cleared_job (s : State) (sl : Slab) (n : Nat) : (s.cleared sl).job n = s.job n := stockReport_job _ _ _ n

/-- The rip front meets both remnant minimums (R16). -/
def State.keepsFront (s : State) (sl : Slab) : Prop := s.stock.minWidth ≤ sl.geom.wr ∧ s.stock.minLength ≤ sl.length

section Ends

variable {s : State} {sl : Slab} {job : Nat}

theorem cleared_keepsFront : (s.cleared sl).keepsFront sl ↔ s.keepsFront sl := by
  rw [State.keepsFront, cleared_stock]; rfl

theorem cleared_lowestFree :
    lowestFree (s.cleared sl).usedSlots Config.rackSlots = lowestFree (s.dropSlab sl.id).usedSlots 24 := by
  rw [usedSlots_of_same (cleared_stock s sl)]; rfl

theorem unloadSequence_of_small (h : ¬s.keepsFront sl) :
    s.unloadSequence sl job = (s.cleared sl).chargeScrap sl job (stripScrap sl + sl.geom.wr * sl.length) :=
  if_neg (mt cleared_keepsFront.1 h)

theorem unloadSequence_of_slot {slot : Nat} (h : s.keepsFront sl)
    (free : lowestFree (s.dropSlab sl.id).usedSlots 24 = some slot) :
    s.unloadSequence sl job = ((s.cleared sl).createRemnant sl slot).chargeScrap sl job (stripScrap sl) := by
  refine (if_pos (cleared_keepsFront.2 h)).trans ?_
  simp only [removed_eq_cleared, cleared_lowestFree, free]

theorem unloadSequence_of_full {e : Slab} (h : s.keepsFront sl)
    (full : lowestFree (s.dropSlab sl.id).usedSlots 24 = none) (he : (s.dropSlab sl.id).evictable = some e) :
    s.unloadSequence sl job =
      (((s.cleared sl).evict e).createRemnant sl ((e.remnant.map RemnantTag.slot).getD 0)).chargeScrap sl job
        (stripScrap sl) := by
  refine (if_pos (cleared_keepsFront.2 h)).trans ?_
  simp only [removed_eq_cleared, cleared_lowestFree, full, evictable_of_same (cleared_stock s sl), he]

theorem unloadSequence_of_stuck (h : s.keepsFront sl) (full : lowestFree (s.dropSlab sl.id).usedSlots 24 = none)
    (he : (s.dropSlab sl.id).evictable = none) :
    s.unloadSequence sl job = ((s.cleared sl).raise .remnantScrapped sl.id).chargeScrap sl job
      (stripScrap sl + sl.geom.wr * sl.length) := by
  refine (if_pos (cleared_keepsFront.2 h)).trans ?_
  simp only [removed_eq_cleared, cleared_lowestFree, full, evictable_of_same (cleared_stock s sl), he]

end Ends

/-- Settles O29: the four ends of the unload sequence. -/
theorem unloadSequenceMakesARemnant : Obligations.UnloadSequenceMakesARemnant := by
  intro s sl job hs u v t kept stone scrapped makes evictable
  refine ⟨fun slot hk free => ?slot, fun e parent slot nearer farther hk full he hstate htag hl hf => ?full,
    fun hk full barred => ?stuck, fun hk => ?small⟩
  case slot =>
    have ends : t = _ := unloadSequence_of_slot hk free
    refine ⟨?_, ?_, ends⟩
    · simp only [makes, ends]
      exact remnant_made (cleared_stock s sl) sl slot job _
    · rw [ends, chargeScrap_job_self, createRemnant_job, cleared_job]
      rfl
  case full =>
    have farthest : u.evictable = some e := evictable_eq_some he hstate (by simp [htag]) hl hf
    have ends : t = _ := unloadSequence_of_full hk full farthest
    rw [htag] at ends
    have evicted : ((s.cleared sl).evict e).stock = (u.dropSlab e.id).stock := by
      simp [State.dropSlab, u]
    intro paid
    have charged : ∀ n, ((s.cleared sl).evict e).job n = paid n := fun n => by
      rw [evict_job, cleared_job, cleared_job]; rfl
    refine ⟨?_, ?_, fun h0 => ?_, ends⟩
    · simp only [makes, ends]
      exact remnant_made evicted sl slot job _
    · rw [ends, chargeScrap_job_self, createRemnant_job, charged]
      rfl
    · rw [ends, chargeScrap_job_other h0, createRemnant_job, charged]
  case stuck =>
    have ends : t = _ := unloadSequence_of_stuck hk full (evictable_eq_none barred)
    refine ⟨?_, ?_, ends⟩
    · rw [ends, chargeScrap_stock, State.raise_stock, cleared_stock]
    · rw [ends, chargeScrap_job_self, job_of_same (State.raise_cost _ _ _), cleared_job]
      rfl
  case small =>
    have ends : t = _ := unloadSequence_of_small hk
    refine ⟨?_, ?_, ends⟩
    · rw [ends, chargeScrap_stock, cleared_stock]
    · rw [ends, chargeScrap_job_self, cleared_job]
      rfl

end Sys2Proof.Machine
end

section
/-! PROOFS. Cut plans and slab geometry (spec/02). -/

namespace Sys2Proof.Machine

/-! ### Lengths consumed (R22, R24) -/

/-- A length consumed takes no more than there is (R24). -/
theorem advance_le (a kerf r : Nat) : advance a kerf r ≤ r := by
  simp only [advance, kerfOf, storedOf]; omega

/-- The stored length, the kerf and the rest make up what there was (R24). -/
theorem stored_add_kerf_add_rest (a kerf r : Nat) : storedOf a r + kerfOf a kerf r + (r - advance a kerf r) = r :=
  Nat.add_sub_cancel' (advance_le a kerf r)

/-- A piece taken from either end leaves the strip's positions in order (R22). -/
theorem consume_near_le_far {st : Strip} (side : Side) (a kerf : Nat) (h : st.near ≤ st.far) :
    (st.consume side a kerf).near ≤ (st.consume side a kerf).far := by
  have le : advance a kerf st.remaining ≤ st.far - st.near := advance_le a kerf st.remaining
  cases side <;> simp only [Strip.consume] <;> omega

/-- A piece taken from either end shortens the strip by what it consumes (R22, R24). -/
theorem consume_remaining (st : Strip) (side : Side) (a kerf : Nat) :
    (st.consume side a kerf).remaining = st.remaining - advance a kerf st.remaining := by
  cases side with
  | near => exact Nat.sub_add_eq st.far st.near _
  | far => exact Nat.sub_right_comm st.far _ st.near

/-- Settles O27: a piece and a RIP both take their advance, which is no more than there is. -/
theorem stoneIsConserved : Obligations.StoneIsConserved := by
  constructor
  · intro st side a kerf h
    rw [consume_remaining]
    exact ⟨consume_near_le_far side a kerf h, stored_add_kerf_add_rest a kerf st.remaining⟩
  · intro g length k w kerf
    have front : g.y0 + advance w kerf g.wr + (g.wr - advance w kerf g.wr) = g.y0 + g.wr := by
      rw [Nat.add_assoc, Nat.add_sub_cancel' (advance_le w kerf g.wr)]
    exact ⟨front, stored_add_kerf_add_rest w kerf g.wr⟩

/-! ### The projection's walk (R26, R27) -/

/-- The states that the projection decides anew (R26). -/
def StepState.isOpen : StepState → Bool
  | .pending | .flagged | .blocked | .partly => true
  | .issued | .unresolved | .done | .skipped => false

/-- What the projection may make of step `a`: `b` differs in its planned geometry and, where `a` is open, in its state
(R21, R26, R27). -/
structure Step.ProjectsTo (a b : Step) : Prop where
  number : b.number = a.number
  job : b.job = a.job
  strip : b.strip = a.strip
  cut : b.cut = a.cut
  accepted : b.accepted = a.accepted
  done : b.done = a.done
  stored : b.stored = a.stored
  closed : a.state.isOpen = false → b.state = a.state
  opened : a.state.isOpen = true → b.state = a.openState ∨ b.state = .flagged ∨ b.state = .blocked

theorem projectsTo_of_closed {st : Step} (h : st.state.isOpen = false) (x : Option (List Rect)) :
    st.ProjectsTo { st with planned := x } :=
  ⟨rfl, rfl, rfl, rfl, rfl, rfl, rfl, fun _ => rfl, fun h' => absurd (h.symm.trans h') Bool.false_ne_true⟩

theorem projectsTo_of_open {st : Step} {y : StepState} (h : st.state.isOpen = true)
    (hy : y = st.openState ∨ y = .flagged ∨ y = .blocked) (x : Option (List Rect)) :
    st.ProjectsTo { st with state := y, planned := x } :=
  ⟨rfl, rfl, rfl, rfl, rfl, rfl, rfl, fun h' => absurd (h'.symm.trans h) Bool.false_ne_true, fun _ => hy⟩

/-- A DONE or SKIPPED step and one that is ISSUED or UNRESOLVED keep their state; an open one is decided (R26, R27). -/
theorem projectStep_projectsTo (length kerf : Nat) (zones : List Zone) (g : Geometry) (st : Step) :
    st.ProjectsTo (projectStep length kerf zones g st).2 := by
  have atRest (h : st.state.isOpen = false) (x) : st.ProjectsTo { st with planned := x } := projectsTo_of_closed h x
  have blocked (h : st.state.isOpen = true) : st.ProjectsTo st.block := projectsTo_of_open h (.inr (.inr rfl)) none
  have decided (h : st.state.isOpen = true) (rs : List Rect) :
      st.ProjectsTo
        { st with planned := some rs, state := if st.flags zones rs then .flagged else st.openState } :=
    projectsTo_of_open h (by split <;> simp) (some rs)
  unfold projectStep
  split
  case h_1 hs | h_2 hs => exact atRest (by rw [hs]; rfl) _
  case h_3 hs | h_4 hs => split <;> exact atRest (by rw [hs]; rfl) _
  case h_5 hs | h_6 hs | h_7 hs | h_8 hs =>
    have isOpen : st.state.isOpen = true := by rw [hs]; rfl
    split
    · split
      · exact decided isOpen _
      · exact blocked isOpen
    · exact blocked isOpen

/-- The walk neither adds nor drops a step (R26). -/
theorem length_projectSteps (length kerf : Nat) (zones : List Zone) (g : Geometry) (steps : List Step) :
    (projectSteps length kerf zones g steps).length = steps.length := by
  induction steps generalizing g with
  | nil => rfl
  | cons st rest ih => exact congrArg (· + 1) (ih _)

/-- At each place of the list the walk keeps all but an open step's state and the planned geometry (R26). -/
theorem projectSteps_getElem? (length kerf : Nat) (zones : List Zone) (g : Geometry) (steps : List Step) (i : Nat) :
    Option.Rel Step.ProjectsTo steps[i]? (projectSteps length kerf zones g steps)[i]? := by
  induction steps generalizing g i with
  | nil => exact .none
  | cons st rest ih =>
    cases i with
    | zero => exact .some (projectStep_projectsTo length kerf zones g st)
    | succ i => exact ih _ i

/-- Under each number the walk keeps all but an open step's state and the planned geometry (R26). -/
theorem projectSteps_lookup (length kerf : Nat) (zones : List Zone) (g : Geometry) (steps : List Step) (k : Nat) :
    Option.Rel Step.ProjectsTo (lookup Step.number k steps)
      (lookup Step.number k (projectSteps length kerf zones g steps)) := by
  induction steps generalizing g with
  | nil => exact .none
  | cons st rest ih =>
    have made := projectStep_projectsTo length kerf zones g st
    rw [projectSteps, lookup_cons, lookup_cons, made.number]
    split
    · exact .some made
    · exact ih _

/-- Settles O26: the walk's relation, read off at a place of the list. -/
theorem projectionKeepsProgress : Obligations.ProjectionKeepsProgress := by
  intro length kerf zones g steps
  refine ⟨length_projectSteps length kerf zones g steps, fun i a b ha hb => ?_⟩
  have made := projectSteps_getElem? length kerf zones g steps i
  rw [ha, hb] at made
  cases made with
  | some made =>
  obtain ⟨number, job, strip, cut, accepted, done, stored, closed, opened⟩ := made
  refine ⟨number, job, strip, cut, accepted, done, stored, fun h => closed ?_, fun h => opened ?_⟩ <;>
    rcases h with h | h | h | h <;> exact congrArg StepState.isOpen h

/-! ### Steps of a plan after a change and the projection (R28) -/

theorem rel_isSome {α : Type} {R : α → α → Prop} {x y : Option α} (h : Option.Rel R x y) :
    y.isSome = x.isSome := by
  cases h <;> rfl

theorem rel_some {α : Type} {R : α → α → Prop} {a : α} {y : Option α} (h : Option.Rel R (some a) y) :
    ∃ b, y = some b ∧ R a b := by
  cases h with
  | some hab => exact ⟨_, rfl, hab⟩

/-- The step found under a number after the projection is what the projection made of the one found before it. -/
theorem projected_step? (sl : Slab) (kerf : Nat) (p : Plan) (k : Nat) :
    Option.Rel Step.ProjectsTo (p.step? k) ({ p with steps := projected sl kerf p.steps }.step? k) :=
  projectSteps_lookup sl.length kerf sl.zones sl.geom p.steps k

theorem step_key {p : Plan} {n : Nat} {st : Step} (h : p.step? n = some st) : st.number = n := lookup_key Step.number h

@[simp] theorem step_putStep (p : Plan) (st : Step) (k : Nat) :
    (p.putStep st).step? k = if st.number = k then some st else p.step? k := lookup_put Step.number st _

theorem changeStep_of_some {s : State} {id n : Nat} {p : Plan} {st : Step} (f : Step → Step)
    (hp : s.plan? id = some p) (hn : p.step? n = some st) : s.changeStep id n f = s.putPlan (p.putStep (f st)) := by
  simp only [State.changeStep, hp, hn]

/-- The plan that stands after the projection (R28). -/
theorem project_plan? {s : State} {id : Nat} {sl : Slab} {p : Plan} (hs : s.slab? id = some sl)
    (hp : s.plan? id = some p) :
    (s.project id).plan? id = some { p with steps := projected sl (s.kerfInUse sl p) p.steps } := by
  simp [State.project, hs, hp, plan_key hp]

/-- A step change followed by the projection: a plan with the same step numbers, whose step `n` is what the projection
made of the changed step. -/
theorem changed_project_plan? {s : State} {id n : Nat} {sl : Slab} {p : Plan} {st : Step} {f : Step → Step}
    (hs : s.slab? id = some sl) (hp : s.plan? id = some p) (hn : p.step? n = some st) (hf : (f st).number = st.number) :
    ∃ q r, ((s.changeStep id n f).project id).plan? id = some q ∧ q.step? n = some r ∧ (f st).ProjectsTo r ∧
      ∀ k, (q.step? k).isSome = (p.step? k).isSome := by
  obtain rfl := step_key hn
  rw [changeStep_of_some f hp hn]
  have plan : (s.putPlan (p.putStep (f st))).plan? id = some (p.putStep (f st)) := by
    rw [plan_putPlan]; exact if_pos (plan_key hp)
  have slab : (s.putPlan (p.putStep (f st))).slab? id = some sl := hs
  have walk := projected_step? sl ((s.putPlan (p.putStep (f st))).kerfInUse sl (p.putStep (f st))) (p.putStep (f st))
  simp only [step_putStep, hf] at walk
  have named := walk st.number
  rw [if_pos rfl] at named
  obtain ⟨r, found, made⟩ := rel_some named
  refine ⟨_, r, project_plan? slab plan, found, made, fun k => ?_⟩
  rw [rel_isSome (walk k)]
  by_cases hk : st.number = k
  · rw [if_pos hk, ← hk, hn]; rfl
  · rw [if_neg hk]

/-! ### SKIP (R38) -/

/-- A step given up touches the plan table alone (R38). -/
theorem unchanged_skipStep (s : State) (id n : Nat) : Unchanged [.plans] s (s.skipStep id n) := by
  intro p hp
  cases p <;> simp_all [Part.same, State.skipStep]

@[simp] theorem skipStep_office (s : State) (id n : Nat) : (s.skipStep id n).office = s.office := by
  simp [State.skipStep]

/-- The owner of SKIP finds the slab, its plan and the step (R38). -/
theorem exec_skip_of_skippable {s : State} {h : InHand} {rest : List RawItem} {o : Origin} {slab : Option Nat}
    {id n : Nat} {sl : Slab} {p : Plan} {st : Step} (hr : Ready s (.skip slab n) .plan h rest o)
    (hc : orContext slab o.ctx.slab = some id) (hrange : slabRange id = true) (hs : s.slab? id = some sl)
    (hp : s.plan? id = some p) (hn : stepRange n = true) (hst : p.step? n = some st) (hk : st.state.skippable = true) :
    exec (.skip slab n) s = .next (replied (s.skipStep id n) h rest .ok []) := by
  have owned : skipItem slab n o s = .ok (s.skipStep id n) := by
    rw [skipItem, needSlab_found hc hrange hn hs, slab_key hs, hp, need_some, hst, need_some, hk, ensure_true]
  exact exec_of_taken (owner := skipItem slab n) rfl hr owned

/-- Settles O25: SKIPPED is not open, so the projection leaves it. -/
theorem skippedStepStaysSkipped : Obligations.SkippedStepStaysSkipped := by
  intro s h rest o slab id n sl p st hr hc hrange hs hp hn hst hk
  obtain ⟨q, r, plan, step, made, numbers⟩ :=
    changed_project_plan? (f := fun st => { st with state := .skipped }) hs hp hst rfl
  refine ⟨_, q, r, exec_skip_of_skippable hr hc hrange hs hp hn hst hk, ?_, step, made.closed rfl, made.done,
    made.stored, made.accepted, numbers, answered_replied (skipStep_office s id n),
    unchanged_replied (unchanged_skipStep s id n) (skipStep_office s id n) (.inl (by decide))⟩
  rw [replied_plan?]
  exact plan

/-! ### PLAN LOAD, PLAN CLEAR and VERDICT (R36, R37, R39, R40) -/

/-- PLAN LOAD with all its checks met puts the plan in place and projects it (R28, R36). -/
theorem exec_planLoad_of_checks {s : State} {h : InHand} {rest : List RawItem} {o : Origin} {slab : Option Nat}
    {kerf id : Nat} {steps : List RawStep} {l : List Step} {sl : Slab}
    (hr : Ready s (.planLoad slab kerf steps) .plan h rest o) (hc : orContext slab o.ctx.slab = some id)
    (hjobs : (steps.all fun r => (stepJob r o.ctx).isSome) = true) (hlo : 1 ≤ kerf) (hhi : kerf ≤ 10)
    (hl : loadedSteps o.ctx steps = some l) (hs : s.slab? id = some sl) (hstate : sl.state ≠ .stocked)
    (hbegun : (s.plan? id).any Plan.begun = false) (hopen : (l.all fun st => s.jobOpen st.job) = true)
    (hroom : (s.plan? id).isSome = true ∨ s.plans.plans.length < 32) :
    let t := (s.putPlan { slab := id, loadKerf := kerf, steps := l }).project id
    exec (.planLoad slab kerf steps) s =
      .next (replied t h rest .ok (be1 (t.stepCount id .flagged) ++ be1 (t.stepCount id .blocked))) := by
  have kerfRange : within 1 10 kerf = true := by simp [within, hlo, hhi]
  have unstocked : (!sl.isStocked) = true := by simpa [Slab.isStocked] using hstate
  have unbegun : (!(s.plan? id).any Plan.begun) = true := by rw [hbegun]; rfl
  have room : ((s.plan? id).isSome || decide (s.plans.plans.length < Config.maxPlans)) = true := by
    rw [Bool.or_eq_true, decide_eq_true_eq]; exact hroom
  refine exec_of_taken (owner := planLoadItem slab kerf steps) rfl hr ?_
  rw [planLoadItem, hc, need_some, hjobs, ensure_true, kerfRange, ensure_true, hl, need_some, hs, need_some, unstocked,
    ensure_true, unbegun, ensure_true, hopen, ensure_true, room, ensure_true]
  rfl

/-- PLAN CLEAR takes a plan away of which no step has begun (R37). -/
theorem exec_planClear_of_unbegun {s : State} {h : InHand} {rest : List RawItem} {o : Origin} {slab : Option Nat}
    {id : Nat} {sl : Slab} {p : Plan} (hr : Ready s (.planClear slab) .plan h rest o)
    (hc : orContext slab o.ctx.slab = some id) (hrange : slabRange id = true) (hs : s.slab? id = some sl)
    (hp : s.plan? id = some p) (hbegun : p.begun = false) :
    exec (.planClear slab) s = .next (replied (s.dropPlan id) h rest .ok []) := by
  have owned : planClearItem slab o s = .ok (s.dropPlan id) := by
    rw [planClearItem, needSlab_found hc hrange rfl hs, slab_key hs, hp, need_some, hbegun, Bool.not_false, ensure_true]
  exact exec_of_taken (owner := planClearItem slab) rfl hr owned

/-- VERDICT on a FLAGGED or UNRESOLVED step acts by its ruling (R39, R40). -/
theorem exec_verdict_of_flagged {s : State} {h : InHand} {rest : List RawItem} {o : Origin} {slab : Option Nat}
    {id n ruling : Nat} {sl : Slab} {p : Plan} {st : Step} (hr : Ready s (.verdict slab n ruling) .plan h rest o)
    (hc : orContext slab o.ctx.slab = some id) (hrange : slabRange id = true) (hs : s.slab? id = some sl)
    (hp : s.plan? id = some p) (hn : stepRange n = true) (hst : p.step? n = some st)
    (hruling : within 1 3 ruling = true) (hstate : st.state = .flagged ∨ st.state = .unresolved) :
    exec (.verdict slab n ruling) s = .next (replied (s.rule id st ruling) h rest .ok []) := by
  have ranges : (stepRange n && within 1 3 ruling) = true := by rw [hn, hruling]; rfl
  have ruled : (st.state == .flagged || st.state == .unresolved) = true := by simpa using hstate
  have owned : verdictItem slab n ruling o s = .ok (s.rule id st ruling) := by
    rw [verdictItem, needSlab_found hc hrange ranges hs, slab_key hs, hp, need_some, hst, need_some, ruled, ensure_true]
  exact exec_of_taken (owner := verdictItem slab n ruling) rfl hr owned

theorem rule_clear (s : State) (id : Nat) (st : Step) : s.rule id st 1 = s.giveBack id st.number := rfl
theorem rule_reject (s : State) (id : Nat) (st : Step) : s.rule id st 3 = s.skipStep id st.number := rfl
theorem rule_accept (s : State) (id : Nat) (st : Step) :
    s.rule id st 2 = if st.state = .unresolved then s.acceptUnresolved id st else s.acceptFlaw id st.number := rfl

/-- Settles O24: each item's owner goes through its checks to its effect; VERDICT's is that of its ruling. -/
theorem planItemsActOnThePlan : Obligations.PlanItemsActOnThePlan := by
  constructor
  · intro s h rest o slab kerf id steps l sl hr hc hjobs hlo hhi hl hs hstate hbegun hopen hroom
    exact exec_planLoad_of_checks hr hc hjobs hlo hhi hl hs hstate hbegun hopen hroom
  · intro s h rest o slab id n sl p st hc hrange hs hp hn hst
    obtain rfl := step_key hst
    refine ⟨?clear, ?skip, ?verdictClear, ?acceptFlagged, ?acceptUnresolved, ?reject⟩
    case clear => exact fun hr hbegun => exec_planClear_of_unbegun hr hc hrange hs hp hbegun
    case skip => exact fun hr hk => exec_skip_of_skippable hr hc hrange hs hp hn hst hk
    case verdictClear =>
      intro hr hstate
      rw [exec_verdict_of_flagged hr hc hrange hs hp hn hst rfl hstate, rule_clear]
    case acceptFlagged =>
      intro hr hstate
      rw [exec_verdict_of_flagged hr hc hrange hs hp hn hst rfl (.inl hstate), rule_accept, hstate, if_neg (by decide)]
    case acceptUnresolved =>
      intro hr hstate
      rw [exec_verdict_of_flagged hr hc hrange hs hp hn hst rfl (.inr hstate), rule_accept, if_pos hstate]
    case reject =>
      intro hr hstate
      rw [exec_verdict_of_flagged hr hc hrange hs hp hn hst rfl hstate, rule_reject]

end Sys2Proof.Machine
end

section
/-! PROOFS. Job records and cost arithmetic (spec/04). -/

namespace Sys2Proof.Machine

/-! ### A charge event (R90 to R93) -/

/-- The total of a balanced job, its charges added, is still the lesser of the limit and the four accumulators' sum: an
accumulator that stops short has itself brought the total to the limit (R90). -/
theorem satAdd_total (m t w e cm ct cw ce : Nat) :
    satAdd Config.max32 (min Config.max32 (m + t + w + e)) (cm + ct + cw + ce) =
      min Config.max32 (satAdd Config.max32 m cm + satAdd Config.max32 t ct + satAdd Config.max32 w cw +
        satAdd Config.max32 e ce) := by
  simp only [satAdd]; omega

theorem charged_balanced {j : Job} (h : j.balanced) (c : Charge) : (j.charged c).balanced := by
  obtain ⟨total, -⟩ := h
  refine ⟨?_, Nat.min_le_left _ _, Nat.min_le_left _ _, Nat.min_le_left _ _, Nat.min_le_left _ _,
    Nat.min_le_left _ _, Nat.min_le_left _ _, Nat.min_le_left _ _⟩
  show satAdd Config.max32 j.total c.sum = _
  rw [total]
  exact satAdd_total _ _ _ _ _ _ _ _

/-- OVERFLOW, once set, stays; the total or a count that stops short sets it (R92). -/
theorem charged_overflow {j : Job} {c : Charge}
    (h : j.overflow = true ∨ Config.max32 < j.total + c.sum ∨ Config.max16 < j.pieces + c.pieces ∨
      Config.max16 < j.flawed + c.flawed ∨ Config.max16 < j.outOfTol + c.outOfTol) :
    (j.charged c).overflow = true := by
  rcases h with h | h | h | h | h <;> simp [Job.charged, Job.saturates, stops, h]

/-- A total that has reached the quote sets OVER_QUOTE (R93). -/
theorem charged_overQuote {j : Job} {c : Charge} (h : (j.charged c).atQuote = true) :
    (j.charged c).overQuote = true := Bool.or_eq_true_iff.2 (.inr h)

/-- What the write of the job has, and each raise about the job keeps, a charge event leaves (R90, R92, R93). -/
theorem addCharge_keeps {P : State → Prop} {s : State} {n : Nat} {c : Charge}
    (put : P (s.putJob ((s.job n).charged c))) (raised : ∀ u k, P u → P (u.raise k n)) : P (s.addCharge n c) := by
  unfold State.addCharge
  dsimp only
  split <;> split
  · exact raised _ _ (raised _ _ put)
  · exact raised _ _ put
  · exact raised _ _ put
  · exact put

/-- A charge event writes the job table alone of the cost unit (R90). -/
theorem addCharge_cost (s : State) (n : Nat) (c : Charge) :
    (s.addCharge n c).cost = (s.putJob ((s.job n).charged c)).cost :=
  addCharge_keeps (P := fun u => u.cost = (s.putJob ((s.job n).charged c)).cost) rfl fun u k e =>
    (State.raise_cost u k n).trans e

/-- A charge event touches line hold and its alarm source alone at the gate, through its alarms. -/
theorem addCharge_gate (s : State) (n : Nat) (c : Charge) :
    ∃ a l, (s.addCharge n c).gate = { s.gate with alarmSource := a, lineHold := l } := by
  refine addCharge_keeps (P := fun u => ∃ a l, u.gate = { s.gate with alarmSource := a, lineHold := l })
    ⟨s.gate.alarmSource, s.gate.lineHold, rfl⟩ ?_
  rintro u k ⟨a, l, before⟩
  obtain ⟨a', l', after⟩ := raise_gate u k n
  exact ⟨a', l', by rw [after, before]⟩

/-! ### Makeup water (R89, R127, R128) -/

/-- The last of `n + 1` makeup charges is of the rate that the first is of. -/
theorem chargeMakeup_succ (n : Nat) (s : State) :
    s.chargeMakeup (n + 1) = (s.chargeMakeup n).addCharge 0 (.makeup s.cost.freshRate) := by
  induction n generalizing s with
  | zero => rfl
  | succ n ih =>
    rw [State.chargeMakeup, ih, State.chargeMakeup, addCharge_cost]
    rfl

theorem chargeMakeup_job_zero (n : Nat) (s : State) :
    (s.chargeMakeup n).job 0 = Nat.repeat (fun j => j.charged (.makeup s.cost.freshRate)) n (s.job 0) := by
  induction n with
  | zero => rfl
  | succ n ih =>
    rw [chargeMakeup_succ, addCharge_job, if_pos rfl, ih]
    rfl

theorem chargeMakeup_job_other {m : Nat} (hm : m ≠ 0) (n : Nat) (s : State) : (s.chargeMakeup n).job m = s.job m := by
  induction n with
  | zero => rfl
  | succ n ih => rw [chargeMakeup_succ, addCharge_job, if_neg hm.symm, ih]

theorem chargeMakeup_gate (n : Nat) (s : State) :
    ∃ a l, (s.chargeMakeup n).gate = { s.gate with alarmSource := a, lineHold := l } := by
  induction n with
  | zero => exact ⟨s.gate.alarmSource, s.gate.lineHold, rfl⟩
  | succ n ih =>
    obtain ⟨a, l, before⟩ := ih
    obtain ⟨a', l', after⟩ := addCharge_gate (s.chargeMakeup n) 0 (.makeup s.cost.freshRate)
    exact ⟨a', l', by rw [chargeMakeup_succ, after, before]⟩

/-- The first good sample sets the reference time (R127). -/
theorem makeupSample_of_first {s : State} (rate now : Nat) (h : s.gate.makeupRef = none) :
    s.makeupSample rate now = s.setGate { s.gate with makeupRef := some now } := by
  unfold State.makeupSample; simp only [h]

/-- The six-hundredths of a litre that a sample leaves to be carried into the count (R127). -/
def State.makeupUnits (s : State) (rate now ref : Nat) : Nat :=
  s.gate.makeupRem + rate * min (secondsSince now ref) s.line.staleness

/-- The litres of a sample carried into the count, its units behind them kept, and the reference time moved on (R127). -/
def State.makeupCounted (s : State) (rate now ref : Nat) : State :=
  s.setGate { s.gate with
    makeupRef := some now
    makeupRem := s.makeupUnits rate now ref % 600
    makeupCount := (s.gate.makeupCount + s.makeupUnits rate now ref / 600) % 4294967296 }

/-- A later sample carries whole litres into the count and hands over the charges for them (R127, R128). -/
theorem makeupSample_of_ref {s : State} {ref : Nat} (rate now : Nat) (h : s.gate.makeupRef = some ref) :
    s.makeupSample rate now = (s.makeupCounted rate now ref).chargeMakeup
      (multiplesPassed s.gate.makeupCount (s.makeupUnits rate now ref / 600)) := by
  unfold State.makeupSample; simp only [h]; rfl

/-- Settles O44: the sums and marks of a charge, and a makeup sample by its two equations. -/
theorem chargeAddsToTheTotal : Obligations.ChargeAddsToTheTotal := by
  constructor
  · intro j c h
    exact ⟨rfl, rfl, rfl, rfl, rfl, rfl, rfl, rfl, charged_balanced h c, rfl, rfl, rfl,
      fun marked => charged_overflow (.inl marked), fun stopped => charged_overflow (.inr (.inl stopped)),
      fun stopped => charged_overflow (.inr (.inr stopped)), charged_overQuote⟩
  · intro s rate now
    refine ⟨makeupSample_of_first rate now, fun ref h => ?_⟩
    intro units count charges t
    have sampled : t = _ := makeupSample_of_ref rate now h
    obtain ⟨a, l, gate⟩ := chargeMakeup_gate
      (multiplesPassed s.gate.makeupCount (s.makeupUnits rate now ref / 600)) (s.makeupCounted rate now ref)
    rw [← sampled] at gate
    refine ⟨by rw [gate]; rfl, by rw [gate]; rfl, by rw [gate]; rfl, ?_, fun n hn => ?_⟩
    · rw [sampled, chargeMakeup_job_zero]
      rfl
    · rw [sampled, chargeMakeup_job_other hn]
      rfl

/-! ### The job items (R77 to R80) -/

theorem unchanged_setCost (s : State) (x : Cost) : Unchanged [.cost] s (s.setCost x) := by
  intro p hp
  cases p <;> simp_all [Part.same]

/-- An item that writes the cost unit alone, taken: its answer is written and every other part is as it was. -/
theorem costItem_taken (s : State) (x : Cost) (h : InHand) (rest : List RawItem) :
    Answered s (replied (s.setCost x) h rest .ok []) h rest ⟨.ok, []⟩ ∧
      Unchanged [.cost] s (replied (s.setCost x) h rest .ok []) :=
  ⟨answered_replied rfl, unchanged_replied (unchanged_setCost s x) rfl (.inl (by decide))⟩

/-- A job record rewritten and the item answered: the other jobs are as they were, and so is every other part. -/
theorem putJob_replied (s : State) {j : Job} {n : Nat} (hj : j.number = n) (h : InHand) (rest : List RawItem) :
    (replied (s.putJob j) h rest .ok []).job n = j ∧
      (∀ m, m ≠ n → (replied (s.putJob j) h rest .ok []).job m = s.job m) ∧
      Answered s (replied (s.putJob j) h rest .ok []) h rest ⟨.ok, []⟩ ∧
      Unchanged [.cost] s (replied (s.putJob j) h rest .ok []) :=
  ⟨by simp [hj], fun m hm => by simp [hj, hm.symm], costItem_taken s _ h rest⟩

/-- A new quote writes one job (R78). -/
theorem requote_cost (s : State) (n : Nat) (q : Option Nat) :
    (s.requote n q).cost = (s.putJob ((s.job n).quoted q)).cost := by
  unfold State.requote
  dsimp only
  split
  · exact State.raise_cost _ _ _
  · rfl

theorem requote_job (s : State) (n m : Nat) (q : Option Nat) :
    (s.requote n q).job m = if n = m then (s.job n).quoted q else s.job m := by
  rw [job_of_same (requote_cost s n q), job_putJob]
  simp [Job.quoted]

@[simp] theorem requote_office (s : State) (n : Nat) (q : Option Nat) : (s.requote n q).office = s.office := by
  unfold State.requote; dsimp only; split <;> simp

/-- JOB_OVER_QUOTE is raised when the mark goes from cleared to set (R78). -/
theorem requote_entries (s : State) (n : Nat) (q : Option Nat) :
    (s.requote n q).alarms.entries =
      if ((s.job n).quoted q).overQuote && !(s.job n).overQuote then (s.alarms.raised .jobOverQuote n s.seconds).1
      else s.alarms.entries := by
  unfold State.requote; dsimp only; split <;> simp

theorem unchanged_requote (s : State) (n : Nat) (q : Option Nat) :
    Unchanged [.cost, .entries, .gate, .floor, .reports] s (s.requote n q) := by
  unfold State.requote
  dsimp only
  intro p hp
  split
  · obtain ⟨x, y, line⟩ := raise_line (s.putJob ((s.job n).quoted q)) .jobOverQuote n
    cases p <;> simp_all [Part.same]
  · cases p <;> simp_all [Part.same]

/-- Settles O43: each owner goes through its checks to its effect. -/
theorem jobItemsRewriteTheJob : Obligations.JobItemsRewriteTheJob := by
  intro s h rest o job n hc hn
  have range : jobRange n = true := by simpa [jobRange] using hn
  refine ⟨?jobOpen, ?jobQuote, ?jobClose, ?shopRates⟩
  case jobOpen =>
    intro q hr hq closed
    have quoteRange : inRange (within 1 Config.max32) q = true := hq
    have unopened : (!s.jobOpen n) = true := by simp [State.jobOpen, closed]
    have owned : jobOpenItem job q o s = .ok (s.putJob { Job.fresh n .opened with quote := q }) := by
      rw [jobOpenItem, needJob_found hc range quoteRange, unopened, ensure_true]
    exact ⟨_, exec_of_taken (owner := jobOpenItem job q) rfl hr owned, putJob_replied s rfl h rest⟩
  case jobQuote =>
    intro q hr hq opened
    have quoteRange : inRange (within 1 Config.max32) q = true := hq
    have isOpen : s.jobOpen n = true := by simp [State.jobOpen, opened]
    have owned : jobQuoteItem job q o s = .ok (s.requote n q) := by
      rw [jobQuoteItem, needJob_found hc range quoteRange, isOpen, ensure_true]
    refine ⟨_, exec_of_taken (owner := jobQuoteItem job q) rfl hr owned, ?_, fun m hm => ?_,
      answered_replied (requote_office s n q), ?_,
      unchanged_replied (unchanged_requote s n q) (requote_office s n q) (.inr (by decide))⟩
    · rw [replied_job, requote_job, if_pos rfl]; rfl
    · rw [replied_job, requote_job, if_neg hm.symm]
    · rw [replied_entries, requote_entries]; rfl
  case jobClose =>
    intro hr h0 opened noSlab noStep
    have isOpen : s.jobOpen n = true := by simp [State.jobOpen, opened]
    have nonzero : (n != 0) = true := by simpa using h0
    have owned : jobCloseItem job o s = .ok (s.putJob { s.job n with state := .closed }) := by
      rw [jobCloseItem, needJob_found hc range rfl, nonzero, isOpen, noSlab, noStep]; rfl
    exact ⟨_, exec_of_taken (owner := jobCloseItem job) rfl hr owned,
      putJob_replied s (j := { s.job n with state := .closed }) (job_number s n) h rest⟩
  case shopRates =>
    intro a b hr ha hb
    have ranges : (within 0 100000 a && within 0 100000 b) = true := by simp [within, ha, hb]
    have owned : shopRatesItem a b o s = .ok (s.setCost { s.cost with loopRate := a, freshRate := b }) := by
      rw [shopRatesItem, ranges, ensure_true]
    exact ⟨_, exec_of_taken (owner := shopRatesItem a b) rfl hr owned, replied_cost .., costItem_taken s _ h rest⟩

/-! ### Balanced jobs through the writes of the job table -/

theorem JobsBalanced.of_cost {s t : State} (h : JobsBalanced s) (e : t.cost = s.cost) : JobsBalanced t := by
  rw [JobsBalanced, e]; exact h

theorem JobsBalanced.job {s : State} (h : JobsBalanced s) (n : Nat) : (s.job n).balanced := by
  unfold State.job
  cases found : lookup Job.number n s.cost.jobs with
  | none => exact balanced_fresh n .closed
  | some j => exact h j (lookup_mem Job.number found)

theorem JobsBalanced.putJob {s : State} (h : JobsBalanced s) {j : Job} (hj : j.balanced) :
    JobsBalanced (s.putJob j) := by
  intro k hk
  rcases mem_put Job.number hk with rfl | hk
  · exact hj
  · exact h k hk

theorem JobsBalanced.addCharge {s : State} (h : JobsBalanced s) (n : Nat) (c : Charge) :
    JobsBalanced (s.addCharge n c) :=
  (h.putJob (charged_balanced (h.job n) c)).of_cost (addCharge_cost s n c)

theorem JobsBalanced.chargeStone {s : State} (h : JobsBalanced s) (n a b : Nat) :
    JobsBalanced (s.chargeStone n a b) := h.addCharge n _

theorem JobsBalanced.chargeMakeup {s : State} (h : JobsBalanced s) (n : Nat) : JobsBalanced (s.chargeMakeup n) := by
  induction n generalizing s with
  | zero => exact h
  | succ n ih => exact ih (h.addCharge 0 _)

/-- A quote set or removed leaves what is summed (R78). -/
theorem JobsBalanced.requote {s : State} (h : JobsBalanced s) (n : Nat) (q : Option Nat) :
    JobsBalanced (s.requote n q) := by
  have put : JobsBalanced (s.putJob ((s.job n).quoted q)) := h.putJob (h.job n)
  unfold State.requote
  dsimp only
  split
  · exact put.of_cost (State.raise_cost _ _ _)
  · exact put

/-! ### Operations that leave the cost unit alone -/

@[simp] theorem applyCompletion_cost (s : State) (id n : Nat) (e : CutEnd) (k : Nat) (l : List Nat) :
    (s.applyCompletion id n e k l).1.cost = s.cost := by
  unfold State.applyCompletion; (repeat' split) <;> simp

@[simp] theorem wearTool_cost (s : State) (n a : Nat) : (s.wearTool n a).cost = s.cost := by
  unfold State.wearTool; dsimp only; (repeat' split) <;> simp

@[simp] theorem startQueued_cost (s : State) (n : Nat) : (s.startQueued n).cost = s.cost := by
  unfold State.startQueued; split <;> simp

@[simp] theorem lateCompletion_cost (s : State) (c : Cutter) (u : Uncertain) (m : Completion) :
    (s.lateCompletion c u m).cost = s.cost := by
  simp [State.lateCompletion]

@[simp] theorem gateNew_cost (s : State) (r : CutRecord) : (s.gateNew r).1.cost = s.cost := by
  unfold State.gateNew; split <;> simp

@[simp] theorem setLatch_cost (s : State) : s.setLatch.cost = s.cost := by
  unfold State.setLatch; dsimp only; split <;> simp

@[simp] theorem clearLatch_cost (s : State) : s.clearLatch.cost = s.cost := by
  unfold State.clearLatch; split <;> simp

@[simp] theorem evaluateLatch_cost (s : State) (test : Bool) : (s.evaluateLatch test).cost = s.cost := by
  unfold State.evaluateLatch; split <;> simp

@[simp] theorem recompare_cost (s : State) (ch : Channel) : (s.recompare ch).cost = s.cost := by
  unfold State.recompare; dsimp only; split <;> simp

@[simp] theorem enterStale_cost (s : State) (ch : Channel) : (s.enterStale ch).cost = s.cost := by
  unfold State.enterStale; dsimp only; split <;> simp

@[simp] theorem invalidValue_cost (s : State) (ch : Channel) : (s.invalidValue ch).cost = s.cost := by
  unfold State.invalidValue State.evaluateStale; dsimp only; split <;> simp

@[simp] theorem createRemnant_cost (s : State) (sl : Slab) (slot : Nat) : (s.createRemnant sl slot).cost = s.cost := by
  simp [State.createRemnant]

@[simp] theorem scan_cost (s : State) (a : Nat) (d : ScanData) : (s.scan a d).1.cost = s.cost := (scan_frame s a d).cost

/-! ### What is due, and the arbiters (R134, R160) -/

@[simp] theorem takeReport_cost (s : State) (r : LineReport) : (s.takeReport r).cost = s.cost := by
  cases r <;> simp [State.takeReport]

@[simp] theorem timeOutId_cost (s : State) (id : Nat) : (s.timeOutId id).cost = s.cost := by
  unfold State.timeOutId; (repeat' split) <;> simp

@[simp] theorem staleId_cost (s : State) (n : Nat) : (s.staleId n).cost = s.cost := by
  unfold State.staleId; (repeat' split) <;> simp

theorem takeDue_cost {s t : State} (h : s.takeDue = some t) : t.cost = s.cost := by
  unfold State.takeDue at h
  (repeat' split at h) <;> cases h <;> simp

/-- Nothing that earlier steps left due touches the cost unit. -/
@[simp] theorem settle_cost (s : State) : s.settle.cost = s.cost :=
  settle_keeps (P := fun u => u.cost = s.cost) (fun u t hu ht => by rw [finish_cost, takeDue_cost ht, hu]) s rfl

/-! ### Transactions of the floor line (R132, R137, R143) -/

@[simp] theorem txFailed_cost (s : State) (t : Tx) : (s.txFailed t).cost = s.cost := by
  obtain ⟨kind, a, p⟩ := t
  cases kind <;> simp [State.txFailed]

@[simp] theorem txAcked_cost (s : State) (t : Tx) : (s.txAcked t).cost = s.cost := by
  obtain ⟨kind, a, p⟩ := t
  cases kind <;> simp [State.txAcked]

@[simp] theorem txNothing_cost (s : State) (t : Tx) : (s.txNothing t).cost = s.cost := by
  obtain ⟨kind, a, p⟩ := t
  cases kind <;> simp [State.txNothing]

@[simp] theorem foreignFrame_cost (s : State) (t : Tx) : (s.foreignFrame t).cost = s.cost := by
  unfold State.foreignFrame; split <;> simp

@[simp] theorem slotOther_cost (s : State) (r : SlotRef) (a : Nat) : (s.slotOther r a).cost = s.cost := by
  unfold State.slotOther; split <;> simp

@[simp] theorem badFrame_cost (s : State) : s.badFrame.cost = s.cost := by
  unfold State.badFrame; dsimp only; (repeat' split) <;> simp

@[simp] theorem floorFrameBegins_cost (s : State) : s.floorFrameBegins.cost = s.cost := by
  unfold State.floorFrameBegins; dsimp only; (repeat' split) <;> simp

@[simp] theorem windowExpires_cost (s : State) : s.windowExpires.cost = s.cost := by
  unfold State.windowExpires; (repeat' split) <;> simp

/-! ### The office port and the frame in hand (R148 to R154) -/

@[simp] theorem answerItem_cost (s : State) (h : InHand) (rest : List RawItem) (r : Result) :
    (s.answerItem h rest r).cost = s.cost := (answerItem_same s h rest r).2.2.2.2.2.2.1

@[simp] theorem setReceiver_cost (s : State) (r : Receiver) : (s.setReceiver r).cost = s.cost := rfl

@[simp] theorem frameBegins_cost (s : State) : s.frameBegins.cost = s.cost := by
  unfold State.frameBegins; split <;> simp

@[simp] theorem headerArrives_cost (s : State) (header : List Byte) : (s.headerArrives header).cost = s.cost := by
  unfold State.headerArrives; (repeat' split) <;> simp

@[simp] theorem frameArrives_cost (s : State) (rest : List Byte) : (s.frameArrives rest).cost = s.cost := by
  unfold State.frameArrives; dsimp only; (repeat' split) <;> simp

@[simp] theorem takeFrame_cost (s : State) : s.takeFrame.cost = s.cost := by
  unfold State.takeFrame State.endFrame; dsimp only; (repeat' split) <;> simp

@[simp] theorem refuseBadItem_cost (s : State) : s.refuseBadItem.cost = s.cost := by
  unfold State.refuseBadItem; (repeat' split) <;> simp

/-! ### What the items do beside the cost unit -/

@[simp] theorem reserved_cost (s : State) (sl : Slab) (j : Nat) : (s.reserved sl j).cost = s.cost := by
  rw [reserved_eq_setStock]; rfl

@[simp] theorem skipStep_cost (s : State) (id n : Nat) : (s.skipStep id n).cost = s.cost := by
  simp [State.skipStep]

@[simp] theorem acceptFlaw_cost (s : State) (id n : Nat) : (s.acceptFlaw id n).cost = s.cost := by
  simp [State.acceptFlaw]

@[simp] theorem loaded_cost (s : State) (sl : Slab) (c : Cutter) (j : Nat) : (s.loaded sl c j).cost = s.cost := by
  simp [State.loaded]

@[simp] theorem accept_cost (s : State) (id : Nat) (c : Cutter) (sl : Slab) (st : Step) :
    (s.accept id c sl st).1.cost = s.cost := by
  simp [State.accept]

@[simp] theorem aborted_cost (s : State) (c : Cutter) : (s.aborted c).cost = s.cost := by
  unfold State.aborted; dsimp only; split <;> simp

@[simp] theorem redefineCutter_cost (s : State) (c : Cutter) (a : Nat) (k : CutterKind) (st : CutterSettings) :
    (s.redefineCutter c a k st).cost = s.cost := by
  unfold State.redefineCutter; dsimp only; split <;> simp

@[simp] theorem removeCutter_cost (s : State) (n : Nat) : (s.removeCutter n).cost = s.cost := rfl

@[simp] theorem defineChannel_cost (s : State) (n a i : Nat) (k : ChannelKind) (low high : Option Nat) :
    (s.defineChannel n a i k low high).cost = s.cost := by
  unfold State.defineChannel; dsimp only; (repeat' split) <;> simp

@[simp] theorem setRoles_cost (s : State) (l t r m : Option Nat) : (s.setRoles l t r m).cost = s.cost := by
  simp [State.setRoles]

@[simp] theorem setOfficeHold_cost (s : State) (on : Bool) : (s.setOfficeHold on).cost = s.cost := by
  simp [State.setOfficeHold]

@[simp] theorem changeAlarms_cost (s : State) (a : Alarms) : (s.changeAlarms a).cost = s.cost := by
  unfold State.changeAlarms; dsimp only; split <;> simp

@[simp] theorem resettled_cost (s : State) (p : TxSettings) (x y : Nat) : (s.resettled p x y).cost = s.cost := by
  simp [State.resettled]

@[simp] theorem dropInFlight_cost (s : State) : s.dropInFlight.cost = s.cost := rfl

@[simp] theorem restartStations_cost (s : State) : s.restartStations.cost = s.cost := rfl

@[simp] theorem restartCutter_cost (s : State) (n : Nat) : (s.restartCutter n).cost = s.cost := by
  unfold State.restartCutter; dsimp only; split <;> simp

theorem restartCutters_cost (s : State) (l : List Nat) : (l.foldl State.restartCutter s).cost = s.cost := by
  induction l generalizing s with
  | nil => rfl
  | cons n l ih => rw [List.foldl_cons, ih, restartCutter_cost]

@[simp] theorem restartWork_cost (s : State) : s.restartWork.cost = s.cost := by
  simp [State.restartWork, restartCutters_cost]

@[simp] theorem restartLine_cost (s : State) : s.restartLine.cost = s.cost := by
  unfold State.restartLine; dsimp only; split <;> simp

/-! ### Operations that charge -/

/-- A discarded slab leaves the stock, and its stone, if it has a basis, is charged to job 0 (R9, R88). -/
theorem JobsBalanced.discarded {s : State} (h : JobsBalanced s) (sl : Slab) : JobsBalanced (s.discarded sl) := by
  have removed : JobsBalanced ((s.dropSlab sl.id).stockReport .removed sl.id) := h.of_cost (by simp)
  obtain ⟨-, e⟩ | ⟨b, -, e⟩ := discarded_cases s sl <;> rw [e]
  · exact removed
  · exact removed.chargeStone _ _ _

theorem JobsBalanced.evict {s : State} (h : JobsBalanced s) (sl : Slab) : JobsBalanced (s.evict sl) := by
  have gone : JobsBalanced (s.dropSlab sl.id) := h.of_cost rfl
  exact (gone.chargeStone 0 (sl.length * sl.width) (sl.basis.getD 0)).of_cost (by simp [State.evict])

theorem JobsBalanced.chargeScrap {s : State} (h : JobsBalanced s) (sl : Slab) (job scrap : Nat) :
    JobsBalanced (s.chargeScrap sl job scrap) := by
  unfold State.chargeScrap
  split
  · exact h
  · exact h.chargeStone _ _ _

/-- Each of the four ends of an unload charges the unload job, and the full rack job 0 before it (R16 to R18). -/
theorem JobsBalanced.unloadSequence {s : State} (h : JobsBalanced s) (sl : Slab) (job : Nat) :
    JobsBalanced (s.unloadSequence sl job) := by
  have cleared : JobsBalanced (s.cleared sl) := h.of_cost (State.stockReport_cost _ _ _)
  by_cases hk : s.keepsFront sl
  · cases free : lowestFree (s.dropSlab sl.id).usedSlots 24 with
    | some slot =>
      rw [unloadSequence_of_slot hk free]
      exact (cleared.of_cost (createRemnant_cost _ _ _)).chargeScrap _ _ _
    | none =>
      cases he : (s.dropSlab sl.id).evictable with
      | some e =>
        rw [unloadSequence_of_full hk free he]
        exact ((cleared.evict e).of_cost (createRemnant_cost _ _ _)).chargeScrap _ _ _
      | none =>
        rw [unloadSequence_of_stuck hk free he]
        exact (cleared.of_cost (State.raise_cost _ _ _)).chargeScrap _ _ _
  · rw [unloadSequence_of_small hk]
    exact cleared.chargeScrap _ _ _

theorem JobsBalanced.unloaded {s : State} (h : JobsBalanced s) (c : Cutter) (id : Nat) :
    JobsBalanced (s.unloaded c id) := by
  have dropped : JobsBalanced (s.dropPlan id) := h.of_cost rfl
  refine JobsBalanced.of_cost ?_ (State.changeCutter_cost _ _ _)
  split
  · exact dropped
  · exact dropped.unloadSequence _ _

/-- An accepted step charges its job (R40, R87). -/
theorem JobsBalanced.acceptUnresolved {s : State} (h : JobsBalanced s) (id : Nat) (st : Step) :
    JobsBalanced (s.acceptUnresolved id st) :=
  (h.of_cost (applyCompletion_cost s id st.number .done 0 [])).addCharge _ _

/-- A verdict charges only where it accepts an UNRESOLVED step (R39, R40). -/
theorem JobsBalanced.rule {s : State} (h : JobsBalanced s) (id : Nat) (st : Step) (ruling : Nat) :
    JobsBalanced (s.rule id st ruling) := by
  unfold State.rule
  split
  · exact h.of_cost (State.giveBack_cost _ _ _)
  · split
    · split
      · exact h.acceptUnresolved id st
      · exact h.of_cost (acceptFlaw_cost _ _ _)
    · exact h.of_cost (skipStep_cost _ _ _)

/-- A taken completion charges the job of its record; what follows leaves the cost unit alone (R67). -/
theorem JobsBalanced.takeCompletion {s : State} (h : JobsBalanced s) (c : Cutter) (r : CutRecord) (m : Completion) :
    JobsBalanced (s.takeCompletion c r m) := by
  have applied := h.of_cost (applyCompletion_cost s r.slab r.number m.ending (min m.pieces r.pieces.length) m.lengths)
  unfold State.takeCompletion
  dsimp only
  generalize (State.cutCharge _ c r m _ _) = charge
  have charged := applied.addCharge r.job charge
  (repeat' split) <;> exact charged.of_cost (by simp)

theorem JobsBalanced.completion {s : State} (h : JobsBalanced s) (c : Cutter) (m : Completion) :
    JobsBalanced (s.completion c m) := by
  unfold State.completion
  split
  · exact (h.takeCompletion _ _ _).of_cost (State.reevaluate_cost _)
  · exact h
  · exact h.of_cost (lateCompletion_cost _ _ _ _)
  · exact h.of_cost (by simp)

/-- A makeup sample charges job 0 for the litres counted (R127, R128). -/
theorem JobsBalanced.makeupSample {s : State} (h : JobsBalanced s) (rate now : Nat) :
    JobsBalanced (s.makeupSample rate now) := by
  cases ref : s.gate.makeupRef with
  | none =>
    rw [makeupSample_of_first rate now ref]
    exact h.of_cost rfl
  | some t =>
    rw [makeupSample_of_ref rate now ref]
    exact JobsBalanced.chargeMakeup (h.of_cost (State.setGate_cost _ _)) _

theorem JobsBalanced.gateSample {s : State} (h : JobsBalanced s) (n value time : Nat) :
    JobsBalanced (s.gateSample n value time) := by
  unfold State.gateSample
  split
  · exact h.of_cost (by simp)
  · exact h.of_cost (by simp)
  · exact h.of_cost (by simp)
  · exact h.makeupSample value time
  · exact h

theorem JobsBalanced.dealWith {s : State} (h : JobsBalanced s) (n i : Nat) (o : PollOutcome) :
    JobsBalanced (s.dealWith n i o) := by
  unfold State.dealWith
  split
  · split
    · split
      · exact JobsBalanced.gateSample (h.of_cost (recompare_cost _ _)) _ _ _
      · exact h.of_cost (invalidValue_cost _ _)
    · exact h
  · exact h

/-- A transaction that ends with the part's answer gone: the value of a scan poll is dealt with (R107). -/
theorem JobsBalanced.txClosed {s : State} (h : JobsBalanced s) (t : Tx) (o : PollOutcome) :
    JobsBalanced (s.txClosed t o) := by
  have freed : JobsBalanced s.freeLine := h.of_cost (State.freeLine_cost s)
  obtain ⟨kind, a, p⟩ := t
  cases kind with
  | command => exact freed.of_cost (State.commandAttemptFailed_cost _)
  | retry r => exact freed.of_cost (State.retryAttemptFailed_cost _ _ _)
  | scanPoll n i run => exact (freed.dealWith n i _).of_cost (State.scanPollOver_cost _)
  | poll => exact freed.of_cost (State.readerPolled_cost _ _)

theorem JobsBalanced.floorFrameGone {s : State} (h : JobsBalanced s) : JobsBalanced s.floorFrameGone := by
  unfold State.floorFrameGone
  split
  · split
    · exact h.of_cost rfl
    · exact h.txClosed _ _
    · exact h
  · exact h.of_cost (State.nextSlot_cost s)
  · exact h

/-! ### Good frames of the floor line (R132, R139, R142) -/

/-- A good frame is discarded, or goes on as a reply or to a slot. -/
theorem JobsBalanced.goodFrame {s : State} (h : JobsBalanced s) {a : Nat} {onReply : Tx → State → State}
    {onSlot : SlotRef → State → State} (reply : ∀ t u, JobsBalanced u → JobsBalanced (onReply t u))
    (slot : ∀ r u, (onSlot r u).cost = u.cost) : JobsBalanced (s.goodFrame a onReply onSlot) := by
  have hunted : JobsBalanced s.hunt := h.of_cost (State.hunt_cost s)
  unfold State.goodFrame
  split
  · exact h
  · exact hunted
  · exact hunted.of_cost (foreignFrame_cost _ _)
  · exact reply _ _ hunted
  · exact hunted.of_cost (slot _ _)

theorem JobsBalanced.answered {s : State} (h : JobsBalanced s) (t : Tx) {pass : State → State × Bool} (o : PollOutcome)
    (passes : ∀ u, JobsBalanced u → JobsBalanced (pass u).1) : JobsBalanced (s.answered t pass o) := by
  have credited : JobsBalanced (s.creditStation t.address) := h.of_cost (State.creditStation_cost _ _)
  unfold State.answered
  split
  · exact (passes _ credited).of_cost (State.closeTx_cost _ _ _ _)
  · exact credited.of_cost (State.closeTx_cost _ _ _ _)

theorem JobsBalanced.passCompletion {s : State} (h : JobsBalanced s) (a : Nat) (m : Completion) :
    JobsBalanced (passCompletion a m s).1 := by
  unfold Machine.passCompletion
  split
  · split
    · exact h.completion _ _
    · exact h
  · exact h

theorem JobsBalanced.passScan {s : State} (h : JobsBalanced s) (a : Nat) (d : ScanData) :
    JobsBalanced (passScan a d s).1 := by
  unfold Machine.passScan
  split
  · exact h.of_cost (scan_cost _ _ _)
  · exact h

/-! ### Steps (R75, R90) -/

/-- What an owner leaves has the property, where it takes the item; a refused item has changed nothing (R166). -/
def Owned.leaves (P : State → Prop) : Owned → Prop
  | .taken _ _ t => P t
  | .refused _ => True

section Leaves

variable {P : State → Prop}

@[simp] theorem leaves_ok (t : State) : (Owned.ok t).leaves P ↔ P t := .rfl
@[simp] theorem leaves_okWith (d : List Byte) (t : State) : (Owned.okWith d t).leaves P ↔ P t := .rfl
@[simp] theorem leaves_taken (c : ResultCode) (d : List Byte) (t : State) : (Owned.taken c d t).leaves P ↔ P t := .rfl
@[simp] theorem leaves_refused (c : ResultCode) : (Owned.refused c).leaves P := trivial

@[simp] theorem leaves_ensure (b : Bool) (c : ResultCode) (k : Owned) :
    (ensure b c k).leaves P ↔ (b = true → k.leaves P) := by
  cases b <;> simp

@[simp] theorem leaves_need {α : Type} (x : Option α) (c : ResultCode) (k : α → Owned) :
    (need x c k).leaves P ↔ ∀ a, x = some a → (k a).leaves P := by
  cases x <;> simp

end Leaves

theorem leaves_mono {P Q : State → Prop} (h : ∀ t, P t → Q t) {k : Owned} (hk : k.leaves P) : k.leaves Q := by
  cases k with
  | taken code data t => exact h t hk
  | refused code => exact trivial

/-- An item denied or refused leaves the jobs, and one that is taken leaves what its owner leaves (R151, R153). -/
theorem JobsBalanced.takeItem {s : State} (hs : JobsBalanced s) (h : InHand) (rest : List RawItem) (area : Area)
    {owner : Origin → State → Owned} (owned : ∀ o, (owner o s).leaves JobsBalanced) :
    JobsBalanced (s.takeItem h rest area owner) := by
  have refused : ∀ r, JobsBalanced (s.answerItem h rest r) := fun r => hs.of_cost (answerItem_cost s h rest r)
  unfold State.takeItem
  split
  · exact refused _
  · next o _ =>
    split
    · cases answer : owner o s with
      | taken code data t =>
        have left : JobsBalanced t := by simpa [answer] using owned o
        exact left.of_cost (answerItem_cost t h rest ⟨code, data⟩)
      | refused code => exact refused _
    · exact refused _

/-- What its owner keeps, an item keeps: settling and the arbiters leave the cost unit alone. -/
theorem JobsBalanced.itemStep {s : State} (h : JobsBalanced s) {i : Instr} {area : Area}
    {owner : Origin → State → Owned} (owned : ∀ o u, JobsBalanced u → (owner o u).leaves JobsBalanced) :
    JobsBalanced (s.itemStep i area owner) := by
  have settled : JobsBalanced s.settle := h.of_cost (settle_cost s)
  refine JobsBalanced.of_cost ?_ (finish_cost _)
  split
  · exact settled
  · split
    · exact settled
    · split
      · exact settled.takeItem _ _ area fun o => owned o _ settled
      · exact settled

/-- An item whose owner leaves the cost unit alone. -/
theorem JobsBalanced.costItem {s : State} (h : JobsBalanced s) {i : Instr} {area : Area} {owner : Origin → State → Owned}
    (kept : ∀ o u, (owner o u).leaves fun t => t.cost = u.cost) : JobsBalanced (s.itemStep i area owner) :=
  h.itemStep fun o u hu => leaves_mono (fun _ e => hu.of_cost e) (kept o u)

/-! ### Owners that go different ways -/

theorem findRemnantItem_cost (l w : Nat) (lot : Option Nat) (o : Origin) (u : State) :
    (findRemnantItem l w lot o u).leaves fun t => t.cost = u.cost := by
  refine (leaves_ensure _ _ _).2 fun _ => ?_
  split <;> simp

theorem cutterItem_cost (n a k : Nat) (st : CutterSettings) (o : Origin) (u : State) :
    (cutterItem n a k st o u).leaves fun t => t.cost = u.cost := by
  refine (leaves_need _ _ _).2 fun kind _ => (leaves_ensure _ _ _).2 fun _ => ?_
  split <;> simp

theorem stationItem_cost (a k : Nat) (o : Origin) (u : State) :
    (stationItem a k o u).leaves fun t => t.cost = u.cost := by
  refine (leaves_need _ _ _).2 fun kind _ => (leaves_ensure _ _ _).2 fun _ => (leaves_ensure _ _ _).2 fun _ => ?_
  split
  · simp
  · split <;> simp

theorem scanStartItem_cost (mode : Nat) (n : Option Nat) (o : Origin) (u : State) :
    (scanStartItem mode n o u).leaves fun t => t.cost = u.cost := by
  unfold scanStartItem
  (repeat' split) <;> simp [startSingle, startPass]

theorem scanStopItem_cost (o : Origin) (u : State) : (scanStopItem o u).leaves fun t => t.cost = u.cost := by
  unfold scanStopItem
  split <;> simp

theorem takeAlarmItem_cost (o : Origin) (u : State) : (takeAlarmItem o u).leaves fun t => t.cost = u.cost := by
  unfold takeAlarmItem
  split <;> simp

/-! ### Every command -/

/-- A command has one next state. -/
theorem JobsBalanced.next {t u : State} (e : (Host.Outcome.next u : Host.Outcome State Fault Refusal) = .next t)
    (h : JobsBalanced u) : JobsBalanced t := by
  cases e; exact h

/-- A command that is an event keeps the jobs balanced: POWER_ON brings empty jobs, and the floor line alone brings
charges, with a completion and with the value of a makeup sample. -/
theorem exec_event_keepsJobs {s t : State} {i : Instr} (event : areaOf i = none) (h : JobsBalanced s)
    (hx : exec i s = .next t) : JobsBalanced t := by
  have settled : JobsBalanced s.settle := h.of_cost (settle_cost s)
  have finished : ∀ {u : State}, JobsBalanced u → JobsBalanced u.finish := fun hu => hu.of_cost (finish_cost _)
  cases i with
  | powerOn => exact .next hx (jobsBalanced_reset.of_cost rfl)
  | timeBaseSecond => exact .next hx (settled.of_cost rfl)
  | cutTimeout _ | channelEntersStale _ | scanPassDue | readerPollDue _ =>
    refine .next hx (h.of_cost ?_)
    split <;> simp
  | startFailure _ _ | abortFailure _ | cutterUnreachable _ =>
    refine .next hx (h.of_cost ?_)
    unfold State.takeOneReport
    split <;> simp
  | officeFrameBegin | officeHeaderArrived _ | officeFrameArrived _ | officeLinkSilence | frameSent | takeFrame
  | badItem | floorFrameBegin | responseWindowExpired | floorLineSilence | badFloorFrame =>
    exact .next hx (finished (settled.of_cost (by simp)))
  | floorFrameSent => exact .next hx (finished settled.floorFrameGone)
  | floorAck _ =>
    refine .next hx (finished (settled.goodFrame (fun t u hu => hu.of_cost (txAcked_cost u t)) fun r u => ?_))
    split <;> simp
  | floorNak _ | noneAnswer _ =>
    exact .next hx (finished (settled.goodFrame (fun t u hu => hu.of_cost (txNothing_cost u t)) fun r u =>
      slotOther_cost u r _))
  | completionAnswer _ _ _ _ _ _ _ _ _ _ =>
    exact .next hx (finished (settled.goodFrame
      (fun t u hu => hu.answered t _ fun v hv => hv.passCompletion _ _) fun r u => slotOther_cost u r _))
  | scanAnswer _ _ _ _ _ _ _ =>
    exact .next hx (finished (settled.goodFrame
      (fun t u hu => hu.answered t _ fun v hv => hv.passScan _ _) fun r u => slotOther_cost u r _))
  | valueAnswer _ _ _ _ =>
    exact .next hx (finished (settled.goodFrame
      (fun t u hu => hu.answered t _ fun v hv => hv) fun r u => slotOther_cost u r _))
  | _ => cases event

/-- A command that is an item keeps the jobs balanced: seven items write the cost unit, the others leave it alone. -/
theorem exec_item_keepsJobs {s t : State} {i : Instr} {area : Area} (item : areaOf i = some area) (h : JobsBalanced s)
    (hx : exec i s = .next t) : JobsBalanced t := by
  cases i with
  | useJob _ | useCutter _ | useSlab _ | contextClear =>
    exact .next hx (h.costItem fun o u => by
      simp [useJobItem, useCutterItem, useSlabItem, contextClearItem, setContext])
  | price _ _ _ | reserve _ _ | release _ | remnantLimits _ _ =>
    exact .next hx (h.costItem fun o u => by
      simp [priceItem, reserveItem, releaseItem, remnantLimitsItem, needSlab])
  | findRemnant l w lot => exact .next hx (h.costItem (findRemnantItem_cost l w lot))
  | discard _ =>
    refine .next hx (h.itemStep fun o u hu => ?_)
    simp [discardItem, needSlab, hu.discarded]
  | planLoad _ _ _ | planClear _ | skip _ _ | tolerance _ =>
    exact .next hx (h.costItem fun o u => by
      simp [planLoadItem, planClearItem, skipItem, toleranceItem, needSlab])
  | verdict _ _ _ =>
    refine .next hx (h.itemStep fun o u hu => ?_)
    simp [verdictItem, needSlab, hu.rule]
  | load _ _ _ | toolChange _ | clearFault _ | cut _ _ _ _ | abort _ =>
    exact .next hx (h.costItem fun o u => by
      simp [loadItem, toolChangeItem, clearFaultItem, cutItem, cutChecks, abortItem, needCutter])
  | unload _ =>
    refine .next hx (h.itemStep fun o u hu => ?_)
    simp [unloadItem, needCutter, hu.unloaded]
  | scanStart mode n => exact .next hx (h.costItem (scanStartItem_cost mode n))
  | scanStop => exact .next hx (h.costItem scanStopItem_cost)
  | scanList _ | channelLimits _ _ _ | waterRoles _ _ _ _ | waterMarks _ _ _ _ _ | lineHold | lineRelease =>
    exact .next hx (h.costItem fun o u => by
      simp [scanListItem, channelLimitsItem, waterRolesItem, waterMarksItem, lineHoldItem, lineReleaseItem])
  | jobOpen _ _ =>
    refine .next hx (h.itemStep fun o u hu => ?_)
    have opened : ∀ n q, JobsBalanced (u.putJob { Job.fresh n .opened with quote := q }) := fun n q =>
      hu.putJob (balanced_fresh n .opened)
    simp [jobOpenItem, needJob, opened]
  | jobQuote _ _ =>
    refine .next hx (h.itemStep fun o u hu => ?_)
    simp [jobQuoteItem, needJob, hu.requote]
  | jobClose _ =>
    refine .next hx (h.itemStep fun o u hu => ?_)
    simp only [jobCloseItem, needJob, leaves_need, leaves_ensure, leaves_ok]
    exact fun n _ _ _ _ _ _ => hu.putJob (hu.job n)
  | shopRates a b =>
    refine .next hx (h.itemStep fun o u hu => ?_)
    have rated : JobsBalanced (u.setCost { u.cost with loopRate := a, freshRate := b }) := hu
    simp [shopRatesItem, rated]
  | station a k => exact .next hx (h.costItem (stationItem_cost a k))
  | cutter n a k _ _ _ _ _ _ _ _ _ => exact .next hx (h.costItem (cutterItem_cost n a k _))
  | stationRemove _ | lineSettings _ _ _ _ _ | floorRestart | cutterRemove _ | channel _ _ _ _ _ _ | channelRemove _
  | alarmAction _ _ _ | origin _ _ _ | originRemove _ | openLevel _ =>
    exact .next hx (h.costItem fun o u => by
      simp [stationRemoveItem, lineSettingsItem, floorRestartItem, cutterRemoveItem, channelItem, channelRemoveItem,
        alarmActionItem, originItem, originRemoveItem, openLevelItem])
  | readSlab _ | readPlan _ | readCutter _ | readChannel _ | readJob _ | readRoster | readWater | readAlarms =>
    exact .next hx (h.costItem fun o u => by
      simp [readSlabItem, readPlanItem, readCutterItem, readChannelItem, readJobItem, readRosterItem, readWaterItem,
        readAlarmsItem, needSlab, needCutter, needJob])
  | takeAlarm => exact .next hx (h.costItem takeAlarmItem_cost)
  | _ => cases item

theorem exec_keepsJobs {s t : State} {i : Instr} (h : JobsBalanced s) (hx : exec i s = .next t) : JobsBalanced t := by
  cases area : areaOf i with
  | none => exact exec_event_keepsJobs area h hx
  | some a => exact exec_item_keepsJobs area h hx

/-- Settles O58: the command at the front keeps it, and an idle step changes nothing. -/
theorem jobsKeptBalanced : Obligations.JobsKeptBalanced := by
  intro s t h hs
  unfold step at hs
  split at hs
  · exact .next hs h
  · exact exec_keepsJobs (h.of_cost (State.setPending_cost _ _)) hs

end Sys2Proof.Machine
end

section
/-! PROOFS. Water channels and the scan engine (spec/05). -/

namespace Sys2Proof.Machine

/-! ### Frames composed -/

theorem Unchanged.mono {but but' : List Part} {s t : State} (h : Unchanged but s t) (sub : but ⊆ but') :
    Unchanged but' s t := fun p hp => h p fun hb => hp (sub hb)

/-- Two steps that say nothing of the links leave what each leaves. -/
theorem Unchanged.trans {but : List Part} {s t u : State} (h : Unchanged but s t) (k : Unchanged but t u)
    (sub : [.floor, .reports] ⊆ but) : Unchanged but s u := by
  intro p hp
  have before := h p hp
  have after := k p hp
  simp only [List.cons_subset, List.nil_subset, and_true] at sub
  cases p <;> simp_all [Part.same]

/-- The arbiters touch only what goes on at the two links (R134, R160). -/
theorem ArbiterFrame.unchanged {s t : State} (h : ArbiterFrame s t) : Unchanged [.floor, .reports] s t := by
  intro p hp
  cases p
  case floor => simp at hp
  case reports => simp at hp
  case settings => exact ⟨h.active, h.pendingSet, h.staleness, h.passInterval⟩
  case origins => exact ⟨by rw [h.handler], by rw [h.handler]⟩
  case port => exact ⟨h.receiver, h.received⟩
  all_goals simp only [Part.same, h.pending, h.seconds, h.freeCount, h.stock, h.plans, h.cutting, h.cost, h.channels,
    h.gate, h.roster, h.actions, h.entries]

/-- What is left as it was before the arbiters move on is so after them. -/
theorem Unchanged.finish {but : List Part} {s u : State} (h : Unchanged but s u) (sub : [.floor, .reports] ⊆ but) :
    Unchanged but s u.finish := h.trans ((finish_frame u).unchanged.mono sub) sub

/-- An alarm raised touches the pending alarm table, line hold with its broadcasts, and the reports (R170, R171). -/
theorem unchanged_raise (s : State) (k : AlarmKind) (n : Nat) :
    Unchanged [.entries, .gate, .floor, .reports] s (s.raise k n) := by
  intro p hp
  obtain ⟨x, y, line⟩ := raise_line s k n
  cases p <;> simp_all [Part.same]

/-! ### A channel written (R98, R100) -/

@[simp] theorem finish_channel? (s : State) (m : Nat) : s.finish.channel? m = s.channel? m :=
  channel_of_same (finish_channels s) m

theorem unchanged_setWater {s : State} {x : Water} (h : x.engine = s.water.engine) :
    Unchanged [.channels] s (s.setWater x) := by
  intro p hp
  cases p <;> simp_all [Part.same]

/-- The end that the writes of a channel share: its record is put, and an alarm about it is raised when one is due. -/
def State.writeChannel (s : State) (x : Channel) (k : AlarmKind) (raises : Bool) : State :=
  if raises then (s.putChannel x).raise k x.number else s.putChannel x

theorem recompare_eq (s : State) (ch : Channel) :
    s.recompare ch = s.writeChannel { ch with compare := compareOf ch.low ch.high ch.reading } .channelLimit
      (entersOutside ch.compare (compareOf ch.low ch.high ch.reading)) := rfl

theorem enterStale_eq (s : State) (ch : Channel) :
    s.enterStale ch = s.writeChannel { ch with stale := true } .channelStale (s.gate.roleOf ch.number).isSome := rfl

/-- Staleness evaluated at once writes the mark as it is found, with an alarm where the channel enters stale in a role. -/
theorem evaluateStale_eq (s : State) (ch : Channel) :
    s.evaluateStale ch = s.writeChannel { ch with stale := ch.staleAt s.seconds s.line.staleness } .channelStale
      (ch.staleAt s.seconds s.line.staleness && !ch.stale && (s.gate.roleOf ch.number).isSome) := by
  unfold State.evaluateStale
  dsimp only
  split
  next enters =>
    obtain ⟨past, -⟩ := Bool.and_eq_true_iff.1 enters
    rw [enterStale_eq, enters, past, Bool.true_and]
  next stays =>
    rw [Bool.not_eq_true] at stays
    rw [stays, Bool.false_and]
    rfl

/-- What the put of its record has, and a raise about it keeps, a write of a channel leaves. -/
theorem writeChannel_keeps {P : State → Prop} {s : State} {x : Channel} {k : AlarmKind} {b : Bool}
    (put : P (s.putChannel x)) (raised : P (s.putChannel x) → P ((s.putChannel x).raise k x.number)) :
    P (s.writeChannel x k b) := by
  unfold State.writeChannel
  split
  · exact raised put
  · exact put

section Write

variable (s : State) (x : Channel) (k : AlarmKind) (b : Bool)

@[simp] theorem writeChannel_water : (s.writeChannel x k b).water = (s.putChannel x).water := by
  unfold State.writeChannel; split <;> simp
@[simp] theorem writeChannel_channel? (m : Nat) :
    (s.writeChannel x k b).channel? m = if x.number = m then some x else s.channel? m := by
  rw [channel_of_same (s := s.putChannel x) (by rw [writeChannel_water]), channel_putChannel]
@[simp] theorem writeChannel_seconds : (s.writeChannel x k b).seconds = s.seconds := by
  unfold State.writeChannel; split <;> simp
@[simp] theorem writeChannel_stock : (s.writeChannel x k b).stock = s.stock := by
  unfold State.writeChannel; split <;> simp
@[simp] theorem writeChannel_cutting : (s.writeChannel x k b).cutting = s.cutting := by
  unfold State.writeChannel; split <;> simp
@[simp] theorem writeChannel_cost : (s.writeChannel x k b).cost = s.cost := by
  unfold State.writeChannel; split <;> simp
@[simp] theorem writeChannel_office : (s.writeChannel x k b).office = s.office := by
  unfold State.writeChannel; split <;> simp
@[simp] theorem writeChannel_actions : (s.writeChannel x k b).alarms.actions = s.alarms.actions := by
  unfold State.writeChannel; split <;> simp
@[simp] theorem writeChannel_entries :
    (s.writeChannel x k b).alarms.entries =
      if b then (s.alarms.raised k x.number s.seconds).1 else s.alarms.entries := by
  unfold State.writeChannel; split <;> simp

/-- A channel written touches line hold and its alarm source alone at the gate, through its alarm. -/
theorem writeChannel_gate :
    ∃ a l, (s.writeChannel x k b).gate = { s.gate with alarmSource := a, lineHold := l } := by
  unfold State.writeChannel
  split
  · exact raise_gate (s.putChannel x) k x.number
  · exact ⟨s.gate.alarmSource, s.gate.lineHold, rfl⟩

theorem unchanged_putChannel : Unchanged [.channels] s (s.putChannel x) := unchanged_setWater rfl

theorem unchanged_writeChannel :
    Unchanged [.channels, .entries, .gate, .floor, .reports] s (s.writeChannel x k b) := by
  have put := (unchanged_putChannel s x).mono (but' := [.channels, .entries, .gate, .floor, .reports]) (by decide)
  exact writeChannel_keeps put fun put =>
    put.trans ((unchanged_raise (s.putChannel x) k x.number).mono (by decide)) (by decide)

end Write

/-! ### A stale episode begins (R100) -/

/-- A channel past the limit whose mark is cleared enters stale. -/
theorem staleId_of_past {s : State} {n : Nat} {ch : Channel} (hc : s.channel? n = some ch) (cleared : ch.stale = false)
    (past : ch.staleAt s.seconds s.line.staleness = true) : s.staleId n = s.enterStale ch := by
  simp [State.staleId, hc, cleared, past]

/-- Settles O5: the channel is due, and its staleness is written with its alarm. -/
theorem staleEpisodeBegins : Obligations.StaleEpisodeBegins := by
  intro s n ch due hc cleared past
  obtain rfl := channel_key hc
  let rest := s.setWater { s.water with staleDue := s.water.staleDue.filter (· != ch.number) }
  have taken : Unchanged [.channels] s rest := unchanged_setWater rfl
  have written : exec (.channelEntersStale ch.number) s = .next (rest.enterStale ch).finish := by
    show Host.Outcome.next _ = _
    rw [if_pos (by simpa using due)]
    exact congrArg (fun u : State => Host.Outcome.next u.finish) (staleId_of_past (s := rest) hc cleared past)
  rw [enterStale_eq] at written
  refine ⟨_, written, by simp, fun m hm => ?_, ?_, ?_⟩
  · rw [finish_channel?, writeChannel_channel?, if_neg hm.symm]
    rfl
  · rw [finish_entries, writeChannel_entries]
    rfl
  · exact ((taken.mono (by decide)).trans (unchanged_writeChannel rest _ _ _) (by decide)).finish (by decide)

/-! ### Polls that have come due (R105, R134, R135) -/

/-- With the line free, a line handed out ends the arbiter's move. -/
theorem grant_of_handed {s t : State} (free : s.line.holder = .free) (move : s.grantStep = some (t, false)) :
    s.grant = t := by
  show State.grantTimes (_ + 1) s = t
  rw [State.grantTimes, if_pos free, move]

/-- The arbiter goes the same way from two states with the same line, the same scan list and the same first move. -/
theorem grant_of_same_move {s t : State} {r : State × Bool} (free : s.line.holder = .free) (line : t.line = s.line)
    (list : t.water.engine.scanList = s.water.engine.scanList) (move : s.grantStep = some r)
    (move' : t.grantStep = some r) : t.grant = s.grant := by
  rw [State.grant, State.grant, line, list]
  show State.grantTimes (_ + 1) t = State.grantTimes (_ + 1) s
  rw [State.grantTimes, State.grantTimes, line, if_pos free, if_pos free, move, move']
  obtain ⟨u, _ | _⟩ := r <;> rfl

/-- The due pass of an engine is begun: its poll is due. -/
theorem startDuePass_of_due {s : State} (h : s.passDue = true) :
    s.startDuePass = s.setEngine { s.water.engine with due := true } := by
  rw [State.startDuePass, if_pos h]

theorem startDuePass_of_not_due {s : State} (h : s.passDue = false) : s.startDuePass = s := by
  rw [State.startDuePass, h]; rfl

/-- A pass whose first poll is due already is not due again. -/
theorem passDue_of_poll_due {s : State} (h : s.water.engine.due = true) : s.passDue = false := by
  simp [State.passDue, h]

/-- A due poll always has its turn at the free line. -/
theorem grantPoll_of_due {s : State} (h : s.water.engine.due = true) : s.grantPoll ≠ none := by
  unfold State.grantPoll
  dsimp only
  rw [if_pos h]
  (repeat' split) <;> simp

/-- With nothing before the polls, the arbiter begins a due pass itself (R105, R134). -/
theorem grant_begins_pass {s : State} (free : s.line.holder = .free) (hb : s.line.broadcast = none)
    (hq : s.line.queue = []) (due : s.passDue = true) :
    s.grant = (s.setEngine { s.water.engine with due := true }).grant := by
  let t := s.setEngine { s.water.engine with due := true }
  have pollDue : t.water.engine.due = true := rfl
  obtain ⟨r, polled⟩ := Option.ne_none_iff_exists'.1 (grantPoll_of_due pollDue)
  have move : s.grantStep = some r := by rw [grantStep_of_polls hb hq, startDuePass_of_due due, polled]
  have move' : t.grantStep = some r := by
    rw [grantStep_of_polls (s := t) hb hq, startDuePass_of_not_due (passDue_of_poll_due pollDue), polled]
  exact (grant_of_same_move (t := t) free rfl rfl move move').symm

/-- With nothing before the rotation, its next station is polled (R135). -/
theorem grant_polls_rotation {s : State} {b : Nat} (free : s.line.holder = .free) (hb : s.line.broadcast = none)
    (hq : s.line.queue = []) (due : s.water.engine.due = false) (pass : s.passDue = false)
    (next : s.nextRotation = some b) :
    s.grant = (s.setLine { s.line with rotation := b }).openTx .poll b (pollFrame b 0) := by
  refine grant_of_handed free ?_
  rw [grantStep_of_polls hb hq, startDuePass_of_not_due pass]
  simp [State.grantPoll, due, next]

/-- A CONTINUOUS run at rest whose interval is over has a pass due (R105). -/
theorem passDue_of_reached {s : State} {e : Engine} {last : Nat} (he : s.water.engine = e)
    (hm : e.mode = some .continuous) (hd : e.due = false) (hp : e.position = some 1) (hf : e.flightIsCurrent = false)
    (hl : e.lastPassEnd = some last) (spent : reached s.seconds (secondsAfter last s.line.passInterval) = true) :
    s.passDue = true := by
  have rested : (e.lastPassEnd.any fun t => reached s.seconds (secondsAfter t s.line.passInterval)) = true := by
    rw [hl, Option.any_some, spent]
  simp only [State.passDue, he, hm, hd, hp, hf, rested]
  rfl

/-- Settles O6: each command is what is due and then the arbiters, whose first move is known. -/
theorem duePollsAreMade : Obligations.DuePollsAreMade := by
  refine ⟨?pass, ?rotation, ?ahead⟩
  case pass =>
    intro s e last he hm hd hp hf hl spent
    have due := passDue_of_reached he hm hd hp hf hl spent
    show Host.Outcome.next _ = _
    rw [if_pos due, startDuePass_of_due due, he]
  case rotation =>
    intro s a b reader free hb hq due pass next
    have polled : s.finish = ((s.setLine { s.line with rotation := b }).openTx .poll b (pollFrame b 0)).outputStart :=
      congrArg State.outputStart (grant_polls_rotation free hb hq due pass next)
    refine ⟨s.finish, congrArg Host.Outcome.next (if_pos reader), ?_, ?_, ?_, (finish_frame s).unchanged⟩ <;>
      rw [polled, outputStart_line] <;> rfl
  case ahead =>
    intro s a reader free hb hq due
    show Host.Outcome.next _ = _
    rw [if_pos reader]
    exact congrArg (fun u : State => Host.Outcome.next u.outputStart) (grant_begins_pass free hb hq due)

/-! ### SCAN LIST, SCAN START and SCAN STOP (R103, R104, R106) -/

/-- A command that is an item, refused: the code is written and nothing else happens (R151, R166). -/
theorem exec_of_refused {s : State} {i : Instr} {area : Area} {h : InHand} {rest : List RawItem} {o : Origin}
    {code : ResultCode} {owner : Origin → State → Owned} (hx : exec i s = .next (s.itemStep i area owner))
    (hr : Ready s i area h rest o) (e : owner o s = .refused code) : exec i s = .next (replied s h rest code []) := by
  rw [hx, itemStep_refused hr e]

theorem startSingle_of_defined {s : State} {n : Nat} (hn : n ≤ 15) (defined : (s.channel? n).isSome = true) :
    startSingle (some n) s = ensure s.water.engine.mode.isNone .busy
      (.ok (s.setEngine (s.water.engine.started .single (some n) none s.water.engine.lastPassEnd))) := by
  have range : channelRange n = true := by simpa [channelRange] using hn
  rw [startSingle, need_some, range, ensure_true, defined, ensure_true]

/-- A pass is started on an engine that is IDLE with a list (R104). -/
theorem startPass_of_idle {s : State} (mode : ScanMode) (idle : s.water.engine.mode = none)
    (list : s.water.engine.scanList ≠ []) :
    startPass mode none s = .ok (s.setEngine (s.water.engine.started mode none (some 1)
      (if mode = .continuous then none else s.water.engine.lastPassEnd))) := by
  have listed : (!s.water.engine.scanList.isEmpty) = true := by simpa using list
  rw [startPass, Option.isNone_none, ensure_true, idle, Option.isNone_none, ensure_true, listed, ensure_true]

theorem isNone_of_running {e : Engine} (running : e.mode ≠ none) : e.mode.isNone = false :=
  Option.isNone_eq_false_iff.2 (Option.isSome_iff_ne_none.2 running)

theorem startPass_of_running {s : State} (mode : ScanMode) (running : s.water.engine.mode ≠ none) :
    startPass mode none s = .refused .busy := by
  rw [startPass, Option.isNone_none, ensure_true, isNone_of_running running, ensure_false]

/-- Settles O37: each owner goes through its checks to the engine it leaves, or is BUSY. -/
theorem scanItemsDriveTheEngine : Obligations.ScanItemsDriveTheEngine := by
  intro s h rest o
  refine ⟨?list, ?single, ?sweep, ?continuous, ?sweepBusy, ?singleBusy, ?continuousBusy, ?stop, ?stopIdle⟩
  case list =>
    intro l hr nonempty short range distinct defined idle
    have inRange : (within 1 16 l.length && l.all channelRange && decide l.Nodup) = true := by
      have := List.length_pos_iff.2 nonempty
      simp [within, channelRange, short, distinct]
      exact ⟨this, range⟩
    have known : (l.all fun n => (s.channel? n).isSome) = true := by simpa using defined
    have owned : scanListItem l o s = .ok (s.setEngine { s.water.engine with scanList := l, position := none }) := by
      rw [scanListItem, inRange, ensure_true, known, ensure_true, idle, Option.isNone_none, ensure_true]
    exact exec_of_taken (owner := scanListItem l) rfl hr owned
  case single =>
    intro n hr hn defined idle
    have owned : scanStartItem 1 (some n) o s =
        .ok (s.setEngine (s.water.engine.started .single (some n) none s.water.engine.lastPassEnd)) :=
      (startSingle_of_defined hn defined).trans (by rw [idle]; rfl)
    exact exec_of_taken (owner := scanStartItem 1 (some n)) rfl hr owned
  case sweep =>
    intro hr idle list
    exact exec_of_taken (owner := scanStartItem 2 none) rfl hr (startPass_of_idle .sweep idle list)
  case continuous =>
    intro hr idle list
    exact exec_of_taken (owner := scanStartItem 3 none) rfl hr (startPass_of_idle .continuous idle list)
  case sweepBusy =>
    intro hr running
    exact exec_of_refused (owner := scanStartItem 2 none) rfl hr (startPass_of_running .sweep running)
  case singleBusy =>
    intro n hr hn defined running
    have owned : scanStartItem 1 (some n) o s = .refused .busy :=
      (startSingle_of_defined hn defined).trans (by rw [isNone_of_running running, ensure_false])
    exact exec_of_refused (owner := scanStartItem 1 (some n)) rfl hr owned
  case continuousBusy =>
    intro hr running
    exact exec_of_refused (owner := scanStartItem 3 none) rfl hr (startPass_of_running .continuous running)
  case stop =>
    intro hr running
    exact exec_of_taken (owner := scanStopItem) rfl hr
      (congrArg Owned.ok (if_neg (by rw [isNone_of_running running]; exact Bool.false_ne_true)))
  case stopIdle =>
    intro hr idle
    exact exec_of_taken (owner := scanStopItem) rfl hr (congrArg Owned.ok (if_pos (by rw [idle]; rfl)))

/-! ### CHANNEL and CHANNEL LIMITS (R96 to R99) -/

theorem channelKindOf_code (k : ChannelKind) : channelKindOf k.code = some k := by cases k <;> rfl

/-- A channel written and the item answered; `P` is the condition of its alarm. -/
theorem writeChannel_replied (s : State) {x : Channel} {n : Nat} (hx : x.number = n) (k : AlarmKind) {b : Bool}
    {P : Prop} [Decidable P] (hb : b = true ↔ P) (h : InHand) (rest : List RawItem) :
    let t := replied (s.writeChannel x k b) h rest .ok []
    t.channel? n = some x ∧ (∀ m, m ≠ n → t.channel? m = s.channel? m) ∧ Answered s t h rest ⟨.ok, []⟩ ∧
      t.alarms.entries = (if P then (s.alarms.raised k n s.seconds).1 else s.alarms.entries) ∧
      Unchanged [.channels, .entries, .gate, .floor, .reports] s t := by
  subst hx
  refine ⟨by simp, fun m hm => by simp [hm.symm], answered_replied (writeChannel_office s x k b), ?_, ?_⟩
  · rw [replied_entries, writeChannel_entries]
    simp only [hb]
  · exact unchanged_replied (unchanged_writeChannel s x k b) (writeChannel_office s x k b) (.inr (by decide))

/-- A channel compared again and the item answered (R98). -/
theorem recompare_replied (s : State) {ch : Channel} {n : Nat} (hn : ch.number = n) (h : InHand)
    (rest : List RawItem) :
    let t := replied (s.recompare ch) h rest .ok []
    let c := compareOf ch.low ch.high ch.reading
    t.channel? n = some { ch with compare := c } ∧ (∀ m, m ≠ n → t.channel? m = s.channel? m) ∧
      Answered s t h rest ⟨.ok, []⟩ ∧
      t.alarms.entries = (if entersOutside ch.compare c then (s.alarms.raised .channelLimit n s.seconds).1
        else s.alarms.entries) ∧
      Unchanged [.channels, .entries, .gate, .floor, .reports] s t :=
  writeChannel_replied s (x := { ch with compare := compareOf ch.low ch.high ch.reading }) hn .channelLimit .rfl h rest

/-- The channel table alone rewritten and the item answered. -/
theorem channels_replied {s t : State} (h : InHand) (rest : List RawItem) (u : Unchanged [.channels] s t)
    (ho : t.office = s.office) :
    Answered s (replied t h rest .ok []) h rest ⟨.ok, []⟩ ∧ Unchanged [.channels] s (replied t h rest .ok []) :=
  ⟨answered_replied ho, unchanged_replied u ho (.inl (by decide))⟩

/-- A sensor that changes begins a stale episode where the mark was cleared (R96, R100). -/
theorem defineChannel_of_other {s : State} {n : Nat} {ch : Channel} (a x : Nat) (k : ChannelKind)
    (low high : Option Nat) (hc : s.channel? n = some ch) (other : ¬(ch.address = a ∧ ch.index = x ∧ ch.kind = k)) :
    s.defineChannel n a x k low high = s.writeChannel (Channel.fresh n a x k low high) .channelStale
      (!ch.stale && (s.gate.roleOf n).isSome) := by
  simp only [State.defineChannel, hc, if_neg other]
  cases ch.stale <;> rfl

theorem defineChannel_of_same {s : State} {n : Nat} {ch : Channel} (low high : Option Nat)
    (hc : s.channel? n = some ch) :
    s.defineChannel n ch.address ch.index ch.kind low high = s.recompare { ch with low := low, high := high } := by
  simp [State.defineChannel, hc]

theorem defineChannel_of_none {s : State} {n : Nat} (a x : Nat) (k : ChannelKind) (low high : Option Nat)
    (hc : s.channel? n = none) : s.defineChannel n a x k low high = s.putChannel (Channel.fresh n a x k low high) := by
  simp [State.defineChannel, hc]

/-- Settles O38: CHANNEL's checks are gone through once, up to the change of kind under a role; each of its outcomes is one
write of the table. -/
theorem channelItemsRewriteTheTable : Obligations.ChannelItemsRewriteTheTable := by
  intro s h rest o n a x k low high hn hord
  refine ⟨?define, ?remove, ?limits⟩
  case define =>
    intro hr ha hx hadm single node unscanned
    have checked : (channelRange n && addressRange a && within 0 3 x && k.admits low high && ordered low high &&
        !(s.water.channels.any fun ch => ch.address == a && ch.index == x && ch.number != n)) = true := by
      simp only [hn, ha, hadm, hord, single, within]
      simpa using hx
    have owned : channelItem n a x k.code low high o s =
        ensure ((s.gate.roleOf n).isNone || (s.channel? n).all fun ch => ch.kind == k) .wrongState
          (.ok (s.defineChannel n a x k low high)) := by
      rw [channelItem, channelKindOf_code, need_some, checked, ensure_true, node, ensure_true, unscanned]
      rfl
    have taken : ((s.gate.roleOf n).isNone || (s.channel? n).all fun ch => ch.kind == k) = true →
        exec (.channel n a x k.code low high) s = .next (replied (s.defineChannel n a x k low high) h rest .ok []) :=
      fun admitted => exec_of_taken (owner := channelItem n a x k.code low high) rfl hr (by rw [owned, admitted]; rfl)
    refine ⟨fun undefined noRole => ?_, fun ch hc hca hcx hck => ?_, fun ch hc other => ?_⟩
    · refine ⟨_, taken (by rw [noRole]; rfl), ?_⟩
      rw [defineChannel_of_none a x k low high undefined]
      refine ⟨?_, fun m hm => ?_, channels_replied h rest (unchanged_putChannel s _) rfl⟩
      · rw [replied_channel?, channel_putChannel]
        exact if_pos rfl
      · rw [replied_channel?, channel_putChannel]
        exact if_neg hm.symm
    · have number := channel_key hc
      subst hca hcx hck
      refine ⟨_, taken (by simp [hc]), ?_⟩
      rw [defineChannel_of_same low high hc]
      exact recompare_replied s (ch := { ch with low := low, high := high }) number h rest
    · by_cases admitted : s.gate.roleOf n = none ∨ ch.kind = k
      · refine ⟨_, taken (by simpa [hc] using admitted), fun _ => ?_, fun role kind => ?_⟩
        · rw [defineChannel_of_other a x k low high hc other]
          exact writeChannel_replied s (x := Channel.fresh n a x k low high) rfl .channelStale (by simp) h rest
        · exact absurd admitted (not_or.2 ⟨role, kind⟩)
      · have refused : channelItem n a x k.code low high o s = .refused .wrongState := by
          have failed : ((s.gate.roleOf n).isNone || (s.channel? n).all fun ch => ch.kind == k) = false := by
            simpa [hc, Option.isSome_iff_ne_none] using admitted
          rw [owned, failed, ensure_false]
        exact ⟨_, rfl, fun allowed => absurd allowed admitted, fun _ _ => itemStep_refuses hr refused⟩
  case remove =>
    intro hr defined unscanned unlisted noRole
    have free : (!s.water.engine.scanList.contains n && (s.gate.roleOf n).isNone) = true := by simp [unlisted, noRole]
    have owned : channelRemoveItem n o s =
        .ok (s.setWater { s.water with channels := remove Channel.number n s.water.channels }) := by
      rw [channelRemoveItem, hn, ensure_true, defined, ensure_true, unscanned, free]
      rfl
    refine ⟨_, exec_of_taken (owner := channelRemoveItem n) rfl hr owned, ?_, fun m hm => ?_,
      channels_replied h rest (unchanged_setWater rfl) rfl⟩
    · rw [replied_channel?]
      exact lookup_remove_self Channel.number n _
    · rw [replied_channel?]
      exact lookup_remove_other Channel.number _ hm.symm
  case limits =>
    intro ch hr hc hadm
    have number := channel_key hc
    have checked : (channelRange n && ordered low high && (s.channel? n).all fun ch => ch.kind.admits low high) = true := by
      simp [hn, hord, hc, hadm]
    have owned : channelLimitsItem n low high o s = .ok (s.recompare { ch with low := low, high := high }) := by
      rw [channelLimitsItem, checked, ensure_true, hc, need_some]
    exact ⟨_, exec_of_taken (owner := channelLimitsItem n low high) rfl hr owned,
      recompare_replied s (ch := { ch with low := low, high := high }) number h rest⟩

/-! ### What came back for a scan poll goes to the line port (R132, R133, R139, R140) -/

/-- A good frame of the polled station inside the open window is the reply of the transaction. -/
theorem arrival_of_window {s : State} {k : TxKind} {a : Nat} {e : Bool} (hr : s.line.receiving = some true)
    (hh : s.line.holder = .tx { kind := k, address := a, phase := .window e }) :
    s.arrival a = .reply { kind := k, address := a, phase := .window e } := by
  simp [State.arrival, hr, hh]

/-- A VALUE inside the window of a scan poll: the station is credited and the answer is ACKed; the value waits for the
transaction's end (log entry 8). -/
theorem exec_valueAnswer_of_scanPoll {s : State} {n x run i v : Nat} {valid e : Bool} {st : Station}
    (hq : s.quiet = true) (hr : s.line.receiving = some true)
    (hh : s.line.holder = .tx { kind := .scanPoll n x run, address := st.address, phase := .window e })
    (hs : s.station? st.address = some st) :
    exec (.valueAnswer st.address i valid v) s = .next ((s.credited st).closeTx
      { kind := .scanPoll n x run, address := st.address, phase := .window e } true (.value i valid v)).finish := by
  show Host.Outcome.next _ = _
  rw [settle_of_quiet hq]
  simp only [State.goodFrame, arrival_of_window hr hh, State.answered, TxKind.isPoll, if_true, creditStation_of_some hs]

theorem unchanged_credited (s : State) (st : Station) : Unchanged [.roster, .floor] s (s.credited st) := by
  intro p hp
  cases p
  case settings => exact ⟨rfl, rfl, rfl, rfl⟩
  all_goals simp_all [Part.same, State.credited]

/-- A transaction that is being closed holds the line, so the arbiter of the floor line waits (R134). -/
theorem closed_line (s : State) (t : Tx) (ack : Bool) (o : PollOutcome) :
    (s.closeTx t ack o).finish.line = (s.closeTx t ack o).line :=
  finish_line_of_held (by simp [State.closeTx])

theorem closed_water (s : State) (t : Tx) (ack : Bool) (o : PollOutcome) :
    (s.closeTx t ack o).finish.water = s.water :=
  finish_water_of_held (by simp [State.closeTx])

/-! ### A scan poll is over (R105, R106) -/

/-- The end of a scan poll's transaction at the engine and the arbiters: the poll in flight becomes absent. -/
def State.landed (s : State) : State := s.setEngine { s.water.engine with inFlight := none }

theorem landed_frame (s : State) : ArbiterFrame s s.landed := by constructor <;> rfl

theorem scanPollOver_of_current {s : State} (h : s.water.engine.flightIsCurrent = true) :
    s.scanPollOver = s.landed.engineAdvance := by
  simp [State.scanPollOver, h, State.landed]

theorem scanPollOver_of_other {s : State} (h : s.water.engine.flightIsCurrent = false) : s.scanPollOver = s.landed := by
  simp [State.scanPollOver, h, State.landed]

/-- From the end of a poll of the current run to the end of the step, only the engine and the links move. -/
theorem ended_frame (s : State) : ArbiterFrame s s.landed.engineAdvance.finish :=
  ((landed_frame s).trans (engineAdvance_frame _)).trans (finish_frame _)

/-- The ACK or NAK of a scan poll's answer has gone: what came back is dealt with and the poll is over (log entry 8). -/
theorem exec_floorFrameSent_of_scanPoll {s : State} {a n x run : Nat} {o : PollOutcome} {out : List Byte}
    (hq : s.quiet = true) (ho : s.line.out = some out)
    (hh : s.line.holder = .tx { kind := .scanPoll n x run, address := a, phase := .closing o }) :
    exec .floorFrameSent s =
      .next (s.freeLine.dealWith n x (s.freeLine.pollOutcome a o)).scanPollOver.finish := by
  show Host.Outcome.next _ = _
  rw [settle_of_quiet hq]
  simp only [State.floorFrameGone, ho, hh, State.txClosed, State.scanPollAnswered]

/-- Nothing to use came back: another answer, a value for another index, or one for a channel or from a node that is
gone (R107, log entry 20). -/
theorem dealWith_nothing {s : State} {a n x : Nat} {o : PollOutcome}
    (h : ∀ valid v, o = .value x valid v → s.stationIs a .node = false ∨ s.channel? n = none) :
    s.dealWith n x (s.pollOutcome a o) = s := by
  unfold State.pollOutcome
  split
  next node =>
    cases o with
    | unanswered => rfl
    | value j valid v =>
      by_cases hj : j = x
      · subst hj
        rcases h valid v rfl with gone | undefined
        · exact absurd node (by rw [gone]; exact Bool.false_ne_true)
        · simp [State.dealWith, undefined]
      · exact dealWith_other_index s hj valid v
  next => rfl

/-- A value of the current run for the polled index, from a node, for a channel that stands (R107). -/
theorem dealWith_of_node {s : State} {a n x v : Nat} {valid : Bool} {ch : Channel}
    (node : s.stationIs a .node = true) (current : s.water.engine.flightIsCurrent = true)
    (hc : s.channel? n = some ch) :
    s.dealWith n x (s.pollOutcome a (.value x valid v)) =
      if valid && decide (v ≤ ch.kind.maxValue) then s.goodValue ch v else s.invalidValue ch := by
  rw [State.pollOutcome, if_pos node, dealWith_value current hc]

/-! ### What an evaluation reads of the channels (R112, R115) -/

theorem levelCritical_eq (g : Gate) (s : State) :
    levelCritical g s.water =
      (g.level.bind s.channel?).any fun q => q.reading.any fun r => decide (r.value < g.marks.critical) := by
  show Option.any _ ((g.level.bind s.channel?).bind fun c => c.reading.map Reading.value) = _
  cases g.level.bind s.channel? with
  | none => rfl
  | some q => cases hr : q.reading <;> simp [hr]

theorem latchClears_eq (g : Gate) (s : State) :
    latchClears g s.water =
      (((g.level.bind s.channel?).any fun q => !q.stale && q.reading.any fun r => decide (g.marks.resume ≤ r.value)) &&
        (g.turbidity.bind s.channel?).any fun q =>
          !q.stale && q.reading.any fun r => decide (r.value ≤ g.marks.turbLimit)) := by
  show (Option.any _ (g.level.bind s.channel?) && Option.any _ (g.turbidity.bind s.channel?) &&
    Option.any _ ((g.level.bind s.channel?).bind fun c => c.reading.map Reading.value) &&
    Option.any _ ((g.turbidity.bind s.channel?).bind fun c => c.reading.map Reading.value)) = _
  cases g.level.bind s.channel? with
  | none => rfl
  | some q =>
    cases g.turbidity.bind s.channel? with
    | none => simp
    | some p => cases hq : q.reading <;> cases hp : p.reading <;> simp [hq, hp, Bool.and_assoc, Bool.and_left_comm]

/-- A raise reads the action table and the pending entries alone of the alarm unit (R170). -/
theorem raised_of_same {a b : Alarms} (actions : a.actions = b.actions) (entries : a.entries = b.entries)
    (k : AlarmKind) (subject now : Nat) : a.raised k subject now = b.raised k subject now := by
  obtain ⟨_, _, _, _⟩ := a
  obtain ⟨_, _, _, _⟩ := b
  cases actions
  cases entries
  rfl

/-! ### The waiting list's walk (R125) -/

/-- What a re-evaluation of the waiting list leaves: of the gate all but that list, and the pending alarms. -/
structure Walked (s t : State) : Prop where
  gate : ∃ w, t.gate = { s.gate with waiting := w }
  entries : t.alarms.entries = s.alarms.entries

theorem Walked.of_same {s t : State} (gate : t.gate = s.gate) (alarms : t.alarms = s.alarms) : Walked s t :=
  ⟨⟨s.gate.waiting, gate⟩, by rw [alarms]⟩

theorem Walked.trans {s t u : State} (h : Walked s t) (k : Walked t u) : Walked s u := by
  obtain ⟨⟨v, hv⟩, entries⟩ := h
  obtain ⟨⟨w, hw⟩, entries'⟩ := k
  exact ⟨⟨w, by rw [hw, hv]⟩, entries'.trans entries⟩

theorem finishRecord_walked (s : State) (r : CutRecord) (u : Option Ending) (p : CutReport) :
    Walked s (s.finishRecord r u p) := by
  refine ⟨⟨s.gate.waiting.filter (· != r.id), ?_⟩, ?_⟩ <;> unfold State.finishRecord <;> dsimp only <;>
    (repeat' split) <;> simp

theorem startFailed_walked (s : State) (n id : Nat) : Walked s (s.startFailed n id).1 := by
  unfold State.startFailed
  split
  · split
    · exact (Walked.of_same (State.giveBack_gate _ _ _) (State.giveBack_alarms _ _ _)).trans (finishRecord_walked _ _ _ _)
    · exact .of_same rfl rfl
  · exact .of_same rfl rfl

theorem forward_walked (s : State) (r : CutRecord) : Walked s (s.forward r) := by
  have sent : Walked s (s.putRecord { r with state := .sent }) := .of_same rfl rfl
  unfold State.forward State.enqueue
  by_cases room : s.line.queue.length < Config.maxCommands
  · simp only [State.putRecord_line, if_pos room]
    exact .of_same rfl rfl
  · simp only [State.putRecord_line, if_neg room]
    exact sent.trans (startFailed_walked _ _ _)

theorem walk_walked (n : Nat) (s : State) : Walked s (s.walk n) := by
  induction n generalizing s with
  | zero => exact .of_same rfl rfl
  | succ n ih =>
    unfold State.walk
    split
    · exact .of_same rfl rfl
    next id rest _ =>
      have popped : Walked s (s.setGate { s.gate with waiting := rest }) := ⟨⟨rest, rfl⟩, rfl⟩
      split
      · exact .of_same rfl rfl
      · split
        · exact (popped.trans (forward_walked _ _)).trans (ih _)
        · exact .of_same rfl rfl

theorem reevaluate_walked (s : State) : Walked s s.reevaluate := walk_walked _ s

/-- While line hold is ON the walk stops at the head of the list (R122, R125). -/
theorem reevaluate_of_hold {s : State} (h : s.gate.lineHold = true) : s.reevaluate = s := by
  have closed : ∀ r, s.startGate r = false := fun r => by simp [State.startGate, h]
  unfold State.reevaluate
  cases s.gate.waiting.length with
  | zero => rfl
  | succ n =>
    unfold State.walk
    (repeat' split) <;> simp_all

/-! ### The critical latch (R115, R116) -/

theorem setLatch_latch (s : State) : s.setLatch.gate.latch = true := by
  unfold State.setLatch
  split
  next set => exact set
  next => simp

/-- A cleared latch is set with WATER_CRITICAL; a set one raises nothing. -/
theorem setLatch_entries (s : State) :
    s.setLatch.alarms.entries = if s.gate.latch then s.alarms.entries else
      (s.alarms.raised .waterCritical
        ((if levelCritical s.gate s.water then s.gate.level else s.gate.turbidity).getD 0) s.seconds).1 := by
  unfold State.setLatch
  split <;> simp

@[simp] theorem setLatch_officeHold (s : State) : s.setLatch.gate.officeHold = s.gate.officeHold := by
  unfold State.setLatch
  split <;> simp

theorem clearLatch_gate (s : State) :
    s.clearLatch.gate = { s.gate with latch := s.gate.latch && !latchClears s.gate s.water } := by
  unfold State.clearLatch
  cases hl : s.gate.latch <;> cases hc : latchClears s.gate s.water <;> simp <;> rw [← hl]

theorem clearLatch_alarms (s : State) : s.clearLatch.alarms = s.alarms := by
  unfold State.clearLatch; split <;> rfl

/-- Where the set test holds, the latch is set (R115, R116). -/
theorem evaluateLatch_sets (s : State) :
    (s.evaluateLatch true).gate.latch = true ∧
      (s.evaluateLatch true).alarms.entries = if s.gate.latch then s.alarms.entries else
        (s.alarms.raised .waterCritical
          ((if levelCritical s.gate s.water then s.gate.level else s.gate.turbidity).getD 0) s.seconds).1 := by
  simp only [State.evaluateLatch, if_true, recomputeHold_gate, recomputeHold_entries]
  exact ⟨setLatch_latch s, setLatch_entries s⟩

/-- Where the set test fails, the latch goes by its clear condition (R115, R116). -/
theorem evaluateLatch_clears (s : State) :
    (s.evaluateLatch false).gate.latch = (s.gate.latch && !latchClears s.gate s.water) ∧
      (s.evaluateLatch false).alarms.entries = s.alarms.entries := by
  simp [State.evaluateLatch, clearLatch_gate, clearLatch_alarms]

/-- Line hold stands as its three sources give it after every evaluation (R117). -/
theorem evaluateLatch_lineHold (s : State) (test : Bool) :
    (s.evaluateLatch test).gate.lineHold =
      ((s.evaluateLatch test).gate.latch || (s.evaluateLatch test).gate.alarmSource || s.gate.officeHold) := by
  unfold State.evaluateLatch
  split <;> simp [Gate.wantsHold, clearLatch_gate]

/-! ### HOLD ordered by line hold going ON (R117, R141) -/

/-- With the floor line free: while line hold is OFF no broadcast is in progress; while it is ON the alarm source holds it,
and HOLD waits to be begun. -/
structure HoldByAlarms (s : State) : Prop where
  free : s.line.holder = .free
  off : s.gate.lineHold = false → s.line.broadcast = none
  on : s.gate.lineHold = true → ∃ b, s.line.broadcast = some b ∧ b.kind = .hold ∧ b.begun = false
  source : s.gate.lineHold = true → s.gate.alarmSource = true

/-- Line hold that goes ON with no broadcast in progress orders HOLD. -/
theorem recomputeHold_orders {s : State} (hb : s.line.broadcast = none) (off : s.gate.lineHold = false)
    (wants : s.gate.wantsHold = true) :
    ∃ b, s.recomputeHold.line = { s.line with broadcast := some b } ∧ b.kind = .hold ∧ b.begun = false := by
  refine ⟨{ kind := .hold, begun := false, slots := [], missed := [], attempts := 0, removed := [], rebound := [] }, ?_, rfl,
    rfl⟩
  simp [State.recomputeHold, off, wants, State.orderBroadcast, hb]

theorem HoldByAlarms.recomputeHold {s : State} (h : HoldByAlarms s) :
    s.recomputeHold.line.holder = .free ∧
      (s.recomputeHold.gate.lineHold = true →
        ∃ b, s.recomputeHold.line.broadcast = some b ∧ b.kind = .hold ∧ b.begun = false) := by
  cases on : s.gate.lineHold with
  | true =>
    have same : s.recomputeHold = s := recomputeHold_same (by simp [Gate.wantsHold, on, h.source on])
    rw [same]
    exact ⟨h.free, h.on⟩
  | false =>
    cases wants : s.gate.wantsHold with
    | true =>
      obtain ⟨b, line, kind, begun⟩ := recomputeHold_orders (h.off on) on wants
      rw [line]
      exact ⟨h.free, fun _ => ⟨b, rfl, kind, begun⟩⟩
    | false =>
      have same : s.recomputeHold = s := recomputeHold_same (wants.trans on.symm)
      rw [same]
      exact ⟨h.free, h.on⟩

theorem HoldByAlarms.of_same {s t : State} (h : HoldByAlarms s) (line : t.line = s.line)
    (hold : t.gate.lineHold = s.gate.lineHold) (source : t.gate.alarmSource = s.gate.alarmSource) : HoldByAlarms t := by
  constructor
  · rw [line]; exact h.free
  · rw [line, hold]; exact h.off
  · rw [line, hold]; exact h.on
  · rw [source, hold]; exact h.source

theorem HoldByAlarms.raise {s : State} (h : HoldByAlarms s) (k : AlarmKind) (n : Nat) : HoldByAlarms (s.raise k n) := by
  unfold State.raise
  dsimp only
  generalize (s.alarms.raised k n s.seconds) = r
  have queued : HoldByAlarms ((s.setAlarms { s.alarms with entries := r.1 }).queueReport (.alarm r.2.1)) :=
    h.of_same (by simp) (by simp) (by simp)
  generalize ((s.setAlarms { s.alarms with entries := r.1 }).queueReport (.alarm r.2.1)) = u at queued
  split
  · have told : HoldByAlarms (u.setGate { u.gate with alarmSource := true }) :=
      ⟨queued.free, queued.off, queued.on, fun _ => rfl⟩
    obtain ⟨free, on⟩ := told.recomputeHold
    have turned : (u.tellAlarmSource true).gate.lineHold = true := by simp [State.tellAlarmSource, Gate.wantsHold]
    exact ⟨free, fun off => absurd (turned.symm.trans off) (by decide), on, fun _ => by simp [State.tellAlarmSource]⟩
  · exact queued

/-- After an evaluation of the latch with line hold ON, HOLD waits to be begun. -/
theorem HoldByAlarms.evaluateLatch {s : State} (h : HoldByAlarms s) (test : Bool) :
    (s.evaluateLatch test).line.holder = .free ∧
      ((s.evaluateLatch test).gate.lineHold = true →
        ∃ b, (s.evaluateLatch test).line.broadcast = some b ∧ b.kind = .hold ∧ b.begun = false) := by
  unfold State.evaluateLatch
  refine HoldByAlarms.recomputeHold ?_
  split
  · unfold State.setLatch
    split
    · exact h
    · exact HoldByAlarms.raise (s := s.setGate { s.gate with latch := true }) ⟨h.free, h.off, h.on, h.source⟩ _ _
  · refine h.of_same ?_ (by simp [clearLatch_gate]) (by simp [clearLatch_gate])
    unfold State.clearLatch
    split <;> rfl

/-- A broadcast that waits is begun by the arbiter as soon as the line is free (R134, R142). -/
theorem finish_begins_broadcast {s : State} {b : Broadcast} (free : s.line.holder = .free)
    (hb : s.line.broadcast = some b) (begun : b.begun = false) :
    s.finish.line.holder = .frame ∧ s.finish.line.out = some (broadcastFrame 0 b.kind) := by
  have granted : s.grant = s.beginBroadcast b := grant_of_handed free (by simp [State.grantStep, hb, begun])
  rw [State.finish, outputStart_line, granted]
  exact ⟨rfl, rfl⟩

/-! ### Makeup samples (R127, R128) -/

/-- What each makeup charge keeps, any number of them keeps. -/
theorem chargeMakeup_keeps {P : State → Prop} (charged : ∀ u c, P u → P (u.addCharge 0 c)) (n : Nat) {s : State}
    (h : P s) : P (s.chargeMakeup n) := by
  induction n generalizing s with
  | zero => exact h
  | succ n ih => exact ih (charged _ _ h)

/-- A sample's gate write and each of its charges keep what it leaves. -/
theorem makeupSample_keeps {P : State → Prop} {s : State} (written : ∀ g, P (s.setGate g))
    (charged : ∀ u c, P u → P (u.addCharge 0 c)) (rate now : Nat) : P (s.makeupSample rate now) := by
  cases ref : s.gate.makeupRef with
  | none => rw [makeupSample_of_first rate now ref]; exact written _
  | some t => rw [makeupSample_of_ref rate now ref]; exact chargeMakeup_keeps charged _ (written _)

/-- What charges come to depends on the cost unit alone. -/
theorem chargeMakeup_cost_of_same {s t : State} (h : t.cost = s.cost) (n : Nat) :
    (t.chargeMakeup n).cost = (s.chargeMakeup n).cost := by
  induction n with
  | zero => exact h
  | succ n ih =>
    rw [chargeMakeup_succ, chargeMakeup_succ, addCharge_cost, addCharge_cost, job_of_same ih, h]
    simp [State.putJob, ih]

/-- A sample reads the makeup accounting, the staleness limit and the cost unit alone (R127, R128). -/
theorem makeupSample_of_same {s t : State} {a l : Bool} (gate : t.gate = { s.gate with alarmSource := a, lineHold := l })
    (staleness : t.line.staleness = s.line.staleness) (cost : t.cost = s.cost) (rate now : Nat) :
    (t.makeupSample rate now).cost = (s.makeupSample rate now).cost ∧
      (t.makeupSample rate now).gate.makeupRef = some now ∧
      (t.makeupSample rate now).gate.makeupRem = (s.makeupSample rate now).gate.makeupRem ∧
      (t.makeupSample rate now).gate.makeupCount = (s.makeupSample rate now).gate.makeupCount := by
  cases ref : s.gate.makeupRef with
  | none =>
    rw [makeupSample_of_first rate now ref, makeupSample_of_first rate now (by rw [gate]; exact ref)]
    exact ⟨cost, rfl, by simp [gate], by simp [gate]⟩
  | some r =>
    have units : t.makeupUnits rate now r = s.makeupUnits rate now r := by simp [State.makeupUnits, gate, staleness]
    have count : t.gate.makeupCount = s.gate.makeupCount := by rw [gate]
    rw [makeupSample_of_ref rate now ref, makeupSample_of_ref rate now (by rw [gate]; exact ref), units, count]
    obtain ⟨_, _, hs⟩ := chargeMakeup_gate (multiplesPassed s.gate.makeupCount (s.makeupUnits rate now r / 600))
      (s.makeupCounted rate now r)
    obtain ⟨_, _, ht⟩ := chargeMakeup_gate (multiplesPassed s.gate.makeupCount (s.makeupUnits rate now r / 600))
      (t.makeupCounted rate now r)
    refine ⟨chargeMakeup_cost_of_same (s := s.makeupCounted rate now r) (t := t.makeupCounted rate now r) cost _, ?_, ?_, ?_⟩
    · rw [ht]; rfl
    · rw [ht, hs]; simp [State.makeupCounted, units]
    · rw [ht, hs]; simp [State.makeupCounted, units, count]

/-! ### Samples told to the gate (R121) -/

@[simp] theorem evaluateLatch_water (s : State) (test : Bool) : (s.evaluateLatch test).water = s.water := by
  unfold State.evaluateLatch State.setLatch State.clearLatch
  dsimp only
  (repeat' split) <;> simp
@[simp] theorem evaluateLatch_stock (s : State) (test : Bool) : (s.evaluateLatch test).stock = s.stock := by
  unfold State.evaluateLatch State.setLatch State.clearLatch
  dsimp only
  (repeat' split) <;> simp

/-- A sample told to the gate leaves the water monitor and the stock table alone. -/
theorem gateSample_keeps (s : State) (n value time : Nat) :
    (s.gateSample n value time).water = s.water ∧ (s.gateSample n value time).stock = s.stock := by
  unfold State.gateSample
  split
  · simp
  · simp
  · simp
  · exact makeupSample_keeps (P := fun u => u.water = s.water ∧ u.stock = s.stock) (fun _ => ⟨rfl, rfl⟩)
      (fun u c kept => by simpa using kept) value time
  · exact ⟨rfl, rfl⟩

/-- A sample in the level or turbidity role passes its mark (R115, R116). -/
def Gate.sampleCritical (g : Gate) (n v : Nat) : Prop :=
  (g.roleOf n = some 1 ∧ v < g.marks.critical) ∨ (g.roleOf n = some 2 ∧ g.marks.turbCritical < v)

/-- A sample in the level or turbidity role evaluates the latch with its own test, then the waiting list (R121). -/
theorem gateSample_of_latchRole {s : State} {n : Nat} (v time : Nat)
    (role : s.gate.roleOf n = some 1 ∨ s.gate.roleOf n = some 2) :
    ∃ test, (test = true ↔ s.gate.sampleCritical n v) ∧
      s.gateSample n v time = (s.evaluateLatch test).reevaluate := by
  unfold Gate.sampleCritical State.gateSample
  rcases role with role | role
  · exact ⟨decide (v < s.gate.marks.critical), by simp [role], by simp [role]⟩
  · exact ⟨decide (s.gate.marks.turbCritical < v), by simp [role], by simp [role]⟩

/-! ### A good value and an invalid one (R108, R109) -/

/-- A channel that has taken a good value at a time (R108). -/
def Channel.sampled (ch : Channel) (v now : Nat) : Channel :=
  { ch with
    reading := some ⟨v, now⟩, fault := false, stale := false, compare := compareOf ch.low ch.high (some ⟨v, now⟩) }

/-- A good value stored and compared, before the gate is told of it (R98, R108). -/
def State.stored (s : State) (ch : Channel) (v : Nat) : State :=
  s.writeChannel (ch.sampled v s.seconds) .channelLimit
    (entersOutside ch.compare (compareOf ch.low ch.high (some ⟨v, s.seconds⟩)))

theorem goodValue_eq (s : State) (ch : Channel) (v : Nat) :
    s.goodValue ch v = (s.stored ch v).gateSample ch.number v s.seconds := by
  unfold State.goodValue
  dsimp only
  rw [recompare_eq, writeChannel_seconds]
  rfl

/-- A channel that has answered an invalid value at a time, with its staleness evaluated (R109). -/
def Channel.faulted (ch : Channel) (now limit : Nat) : Channel := { ch with fault := true, stale := ch.staleAt now limit }

theorem invalidValue_eq (s : State) (ch : Channel) :
    s.invalidValue ch = s.writeChannel (ch.faulted s.seconds s.line.staleness) .channelStale
      (ch.staleAt s.seconds s.line.staleness && !ch.stale && (s.gate.roleOf ch.number).isSome) :=
  evaluateStale_eq s { ch with fault := true }

theorem invalidValue_water (s : State) (ch : Channel) :
    (s.invalidValue ch).water = (s.putChannel (ch.faulted s.seconds s.line.staleness)).water := by
  rw [invalidValue_eq, writeChannel_water]

theorem invalidValue_channel? (s : State) (ch : Channel) (m : Nat) :
    (s.invalidValue ch).channel? m =
      if ch.number = m then some (ch.faulted s.seconds s.line.staleness) else s.channel? m := by
  rw [invalidValue_eq, writeChannel_channel?]
  rfl

/-- CHANNEL_STALE is raised when the channel enters stale in a role (R100, R109). -/
theorem invalidValue_entries (s : State) {ch : Channel} {n : Nat} (hn : ch.number = n) :
    (s.invalidValue ch).alarms.entries =
      if ch.staleAt s.seconds s.line.staleness = true ∧ ch.stale = false ∧ (s.gate.roleOf n).isSome = true then
        (s.alarms.raised .channelStale n s.seconds).1
      else s.alarms.entries := by
  subst hn
  rw [invalidValue_eq, writeChannel_entries]
  simp only [Bool.and_eq_true, Bool.not_eq_true', and_assoc]
  rfl

theorem goodValue_water (s : State) (ch : Channel) (v : Nat) :
    (s.goodValue ch v).water = (s.putChannel (ch.sampled v s.seconds)).water := by
  rw [goodValue_eq, (gateSample_keeps _ _ _ _).1]
  exact writeChannel_water ..

theorem goodValue_stock (s : State) (ch : Channel) (v : Nat) : (s.goodValue ch v).stock = s.stock := by
  rw [goodValue_eq, (gateSample_keeps _ _ _ _).2]
  exact writeChannel_stock ..

theorem goodValue_channel? (s : State) (ch : Channel) (v m : Nat) :
    (s.goodValue ch v).channel? m = if ch.number = m then some (ch.sampled v s.seconds) else s.channel? m := by
  rw [channel_of_same (congrArg Water.channels (goodValue_water s ch v)), channel_putChannel]
  rfl

theorem HoldByAlarms.stored {s : State} (h : HoldByAlarms s) (ch : Channel) (v : Nat) : HoldByAlarms (s.stored ch v) :=
  writeChannel_keeps (h.of_same rfl rfl rfl) fun put => put.raise _ _

/-- A good value in the makeup role, taken as its transaction ends, goes to the makeup accounting as the sample it is
(R121, R127). -/
theorem goodValue_makeup {s : State} {ch : Channel} (v : Nat) (role : s.gate.roleOf ch.number = some 4) :
    (s.freeLine.goodValue ch v).cost = (s.makeupSample v s.seconds).cost ∧
      (s.freeLine.goodValue ch v).gate.makeupRef = some s.seconds ∧
      (s.freeLine.goodValue ch v).gate.makeupRem = (s.makeupSample v s.seconds).gate.makeupRem ∧
      (s.freeLine.goodValue ch v).gate.makeupCount = (s.makeupSample v s.seconds).gate.makeupCount := by
  obtain ⟨a, l, gate⟩ : ∃ a l, (s.freeLine.stored ch v).gate = { s.gate with alarmSource := a, lineHold := l } :=
    writeChannel_gate ..
  have told : s.freeLine.goodValue ch v = (s.freeLine.stored ch v).makeupSample v s.seconds := by
    have same : (s.freeLine.stored ch v).gate.roleOf ch.number = some 4 := by rw [gate]; exact role
    simp only [goodValue_eq, State.gateSample, same, State.freeLine_seconds]
  have staleness : (s.freeLine.stored ch v).line.staleness = s.line.staleness :=
    (unchanged_writeChannel s.freeLine _ _ _ .settings (by decide)).2.2.1
  rw [told]
  exact makeupSample_of_same gate staleness (writeChannel_cost ..) v s.seconds

/-- A good value in the level or turbidity role evaluates the latch with the sample's own test, on the channels with the
value in them; `seen` is the alarm unit once the comparison has raised its alarm (R98, R115, R116, R117). -/
theorem goodValue_latch {s t : State} {ch : Channel} {n v : Nat} (hn : ch.number = n)
    (frame : ArbiterFrame (s.goodValue ch v) t)
    (role : s.gate.roleOf n = some 1 ∨ s.gate.roleOf n = some 2) :
    let seen : Alarms := if entersOutside ch.compare (compareOf ch.low ch.high (some ⟨v, s.seconds⟩)) then
      { s.alarms with entries := (s.alarms.raised .channelLimit n s.seconds).1 } else s.alarms
    let low := (s.gate.level.bind t.channel?).any fun q =>
      q.reading.any fun r => decide (r.value < s.gate.marks.critical)
    let clears :=
      ((s.gate.level.bind t.channel?).any fun q => !q.stale && q.reading.any fun r =>
          decide (s.gate.marks.resume ≤ r.value)) &&
        (s.gate.turbidity.bind t.channel?).any fun q => !q.stale && q.reading.any fun r =>
          decide (r.value ≤ s.gate.marks.turbLimit)
    (s.gate.sampleCritical n v → t.gate.latch = true ∧ t.alarms.entries = (if s.gate.latch then seen.entries
      else (seen.raised .waterCritical ((if low then s.gate.level else s.gate.turbidity).getD 0) s.seconds).1)) ∧
    (¬s.gate.sampleCritical n v → t.gate.latch = (s.gate.latch && !clears) ∧ t.alarms.entries = seen.entries) ∧
    t.gate.lineHold = (t.gate.latch || t.gate.alarmSource || s.gate.officeHold) := by
  intro seen low clears
  subst hn
  obtain ⟨a, l, gate⟩ : ∃ a l, (s.stored ch v).gate = { s.gate with alarmSource := a, lineHold := l } :=
    writeChannel_gate ..
  have actions : (s.stored ch v).alarms.actions = seen.actions := by
    rw [State.stored, writeChannel_actions]
    show _ = Alarms.actions (ite _ _ _)
    split <;> rfl
  have entries : (s.stored ch v).alarms.entries = seen.entries := by
    rw [State.stored, writeChannel_entries]
    show _ = Alarms.entries (ite _ _ _)
    split <;> rfl
  have seconds : (s.stored ch v).seconds = s.seconds := writeChannel_seconds ..
  rw [goodValue_eq] at frame
  generalize s.stored ch v = w at *
  obtain ⟨test, passes, told⟩ := gateSample_of_latchRole (s := w) (n := ch.number) v s.seconds (by rw [gate]; exact role)
  have critical : test = true ↔ s.gate.sampleCritical ch.number v := by rw [gate] at passes; exact passes
  rw [told] at frame
  obtain ⟨⟨waiting, walked⟩, kept⟩ := reevaluate_walked (w.evaluateLatch test)
  have channels : t.channel? = w.channel? := funext (channel_of_same (frame.channels.trans (by simp)))
  have isLow : levelCritical w.gate w.water = low := by rw [levelCritical_eq, ← channels, gate]
  have isClear : latchClears w.gate w.water = clears := by rw [latchClears_eq, ← channels, gate]
  rw [frame.gate, walked, frame.entries, kept]
  refine ⟨fun c => ?_, fun c => ?_, ?_⟩
  · obtain ⟨latch, raised⟩ := evaluateLatch_sets w
    rw [critical.2 c]
    refine ⟨latch, ?_⟩
    rw [raised, isLow, raised_of_same actions entries, entries, seconds, gate]
  · obtain ⟨latch, raised⟩ := evaluateLatch_clears w
    rw [Bool.eq_false_iff.2 (mt critical.1 c)]
    refine ⟨?_, raised.trans entries⟩
    rw [latch, isClear, gate]
  · have hold := evaluateLatch_lineHold w test
    rw [gate] at hold
    exact hold

/-- Line hold that such a value turns ON with no broadcast in progress has HOLD sent at once (R117, R134, R141). -/
theorem goodValue_sends_hold {s : State} {ch : Channel} {n v : Nat} (hn : ch.number = n)
    (role : s.gate.roleOf n = some 1 ∨ s.gate.roleOf n = some 2) (free : s.line.holder = .free)
    (hb : s.line.broadcast = none) (off : s.gate.lineHold = false)
    (on : (s.goodValue ch v).gate.lineHold = true) :
    (s.goodValue ch v).landed.engineAdvance.finish.line.holder = .frame ∧
      (s.goodValue ch v).landed.engineAdvance.finish.line.out = some (broadcastFrame 0 .hold) := by
  subst hn
  have start : HoldByAlarms s := ⟨free, fun _ => hb, fun h => absurd (off.symm.trans h) (by decide),
    fun h => absurd (off.symm.trans h) (by decide)⟩
  obtain ⟨a, l, gate⟩ : ∃ a l, (s.stored ch v).gate = { s.gate with alarmSource := a, lineHold := l } :=
    writeChannel_gate ..
  obtain ⟨test, -, told⟩ := gateSample_of_latchRole (s := s.stored ch v) (n := ch.number) v s.seconds
    (by rw [gate]; exact role)
  obtain ⟨⟨waiting, walked⟩, -⟩ := reevaluate_walked ((s.stored ch v).evaluateLatch test)
  rw [goodValue_eq, told] at on ⊢
  rw [walked] at on
  rw [reevaluate_of_hold on]
  obtain ⟨stillFree, ordered⟩ := (start.stored ch v).evaluateLatch test
  obtain ⟨b, waits, kind, begun⟩ := ordered on
  rw [← kind]
  exact finish_begins_broadcast (by rw [State.engineAdvance_line]; exact stillFree)
    (by rw [State.engineAdvance_line]; exact waits) begun

/-! ### Scan polls are answered (R107 to R109) -/

/-- An answer being closed leaves what stood before it, beside the floor line; with both links busy nothing moves on. -/
theorem unchanged_closed {but : List Part} {s u : State} (h : Unchanged but s u) (hf : Part.floor ∈ but)
    (office : u.office = s.office) (t : Tx) (ack : Bool) (o : PollOutcome) :
    Unchanged but s (u.closeTx t ack o).finish := by
  intro p hp
  have before := h p hp
  cases p
  case floor => exact absurd hf hp
  case reports =>
    intro hl busy
    rw [finish_of_busy (by simp [State.closeTx]) (by rw [State.closeTx_office, office]; exact busy),
      State.closeTx_alarms]
    exact before hl busy
  all_goals simp_all [Part.same, State.closeTx]

theorem unchanged_freeLine (s : State) : Unchanged [.floor] s s.freeLine := by
  intro p hp
  cases p
  case settings => exact ⟨rfl, rfl, rfl, rfl⟩
  all_goals simp_all [Part.same, State.freeLine]

/-- NONE inside the window of a scan poll of the current run: the station is credited and the poll is over (R107). -/
theorem exec_noneAnswer_of_scanPoll {s : State} {n x run : Nat} {e : Bool} {st : Station} (hq : s.quiet = true)
    (hr : s.line.receiving = some true)
    (hh : s.line.holder = .tx { kind := .scanPoll n x run, address := st.address, phase := .window e })
    (hs : s.station? st.address = some st) (current : s.water.engine.flightIsCurrent = true) :
    exec (.noneAnswer st.address) s = .next (s.credited st).freeLine.landed.engineAdvance.finish := by
  rw [← scanPollOver_of_current (s := (s.credited st).freeLine) current]
  show Host.Outcome.next _ = _
  rw [settle_of_quiet hq]
  simp only [State.goodFrame, arrival_of_window hr hh, State.txNothing, creditStation_of_some hs]

/-- A value written in leaves the engine: the poll is still of the current run. -/
theorem scanPollOver_of_put {s u : State} {x : Channel} (h : u.water = (s.putChannel x).water)
    (current : s.water.engine.flightIsCurrent = true) : u.scanPollOver = u.landed.engineAdvance :=
  scanPollOver_of_current (by rw [h]; exact current)

/-- Settles O42: the VALUE is ACKed; at the transaction's end what came back is nothing to use, good or invalid, and each is
followed by the end of the poll at the engine; NONE is that end alone. -/
theorem scanPollsAreAnswered : Obligations.ScanPollsAreAnswered := by
  refine ⟨?acked, ?ended, ?none⟩
  case acked =>
    intro s a n x run i v valid e st hq hr hh hs
    obtain rfl := station_key hs
    refine ⟨_, exec_valueAnswer_of_scanPoll hq hr hh hs, ?_, ?_, ?_, fun b hb => ?_, closed_water ..,
      unchanged_closed (unchanged_credited s st) (by decide) rfl _ _ _⟩
    · rw [closed_line]; rfl
    · rw [closed_line]; rfl
    · rw [station_of_same (s := s.credited st) (by rw [closed_line]; rfl), credited_station?]
    · rw [station_of_same (s := s.credited st) (by rw [closed_line]; rfl)]
      exact (station_putStation s.hunt _ b).trans (if_neg hb.symm)
  case ended =>
    intro s a n x run o out hq ho hh free landed
    have step := exec_floorFrameSent_of_scanPoll hq ho hh
    refine ⟨fun other => ?_, fun current nothing => ?_, fun valid v ch current hv node hc => ?_⟩
    · rw [step, dealWith_of_other_run (s := s.freeLine) other, scanPollOver_of_other (s := s.freeLine) other]
      exact ⟨rfl, ((landed_frame s.freeLine).trans (finish_frame _)).channels⟩
    · rw [step, dealWith_nothing (s := s.freeLine) nothing, scanPollOver_of_current (s := s.freeLine) current]
      exact ⟨rfl, (ended_frame s.freeLine).channels⟩
    · subst hv
      have number := channel_key hc
      rw [dealWith_of_node (s := s.freeLine) node current hc] at step
      by_cases good : valid = true ∧ v ≤ ch.kind.maxValue
      · have frame := ended_frame (s.freeLine.goodValue ch v)
        have channel? : ∀ m, _ = if ch.number = m then some (ch.sampled v s.seconds) else s.channel? m := fun m =>
          (channel_of_same frame.channels m).trans (goodValue_channel? s.freeLine ch v m)
        rw [if_pos (by simpa using good), scanPollOver_of_put (goodValue_water s.freeLine ch v) current] at step
        refine ⟨_, step, fun m hm => ?_, frame.stock.trans (goodValue_stock s.freeLine ch v),
          fun _ _ => ⟨rfl, ?_, fun role => ?_, fun role => ?_⟩, fun bad => ?_⟩
        · rw [channel?, if_neg fun same => hm (same.symm.trans number)]
        · rw [channel?, if_pos number]; rfl
        · rw [frame.cost, frame.gate]
          exact goodValue_makeup v (by rw [number]; exact role)
        · obtain ⟨sets, clears, hold⟩ := goodValue_latch (s := s.freeLine) number frame role
          exact ⟨sets, clears, hold, fun off on hb =>
            goodValue_sends_hold (s := s.freeLine) number role rfl hb off (frame.gate ▸ on)⟩
        · obtain ⟨isValid, inRange⟩ := good
          rcases bad with bad | bad
          · exact absurd (isValid.symm.trans bad) (by decide)
          · exact absurd inRange (Nat.not_le.2 bad)
      · have written := invalidValue_eq s.freeLine ch
        have frame := ended_frame (s.freeLine.invalidValue ch)
        have channel? : ∀ m, _ = if ch.number = m then some (ch.faulted s.seconds s.line.staleness)
            else s.channel? m := fun m =>
          (channel_of_same frame.channels m).trans (invalidValue_channel? s.freeLine ch m)
        rw [if_neg (by simpa using good), scanPollOver_of_put (invalidValue_water s.freeLine ch) current] at step
        refine ⟨_, step, fun m hm => ?_, ?_, fun isValid inRange => absurd ⟨isValid, inRange⟩ good,
          fun _ => ⟨rfl, ?_, ?_, ?_, ?_, ?_⟩⟩
        · rw [channel?, if_neg fun same => hm (same.symm.trans number)]
        · rw [frame.stock, written]; exact writeChannel_stock ..
        · rw [channel?, if_pos number]; rfl
        · exact frame.entries.trans (invalidValue_entries s.freeLine number)
        · obtain ⟨a, l, gate⟩ := writeChannel_gate s.freeLine _ _ _
          rw [frame.gate, written, gate]; rfl
        · rw [frame.cutting, written]; exact writeChannel_cutting ..
        · rw [frame.cost, written]; exact writeChannel_cost ..
  case none =>
    intro s a x n e st hq hr hh hs current
    obtain rfl := station_key hs
    have frame := ended_frame (s.credited st).freeLine
    have station := (station_of_same frame.roster st.address).trans (credited_station? s st)
    refine ⟨_, exec_noneAnswer_of_scanPoll hq hr hh hs current, frame.channels, by rw [station]; rfl,
      by rw [station]; rfl, by rw [creditStation_of_some hs]; rfl, ?_⟩
    have freed : Unchanged [.roster, .floor, .reports] s (s.credited st).freeLine :=
      ((unchanged_credited s st).mono (by decide)).trans ((unchanged_freeLine _).mono (by decide)) (by decide)
    exact freed.trans (frame.unchanged.mono (by decide)) (by decide)

end Sys2Proof.Machine
end

section
/-! PROOFS. The water gate and line hold (spec/06). -/

namespace Sys2Proof.Machine

/-! ### The start gate under line hold (R117, R122) -/

/-- Line hold ON closes the start gate to records of both kinds of cutter. -/
theorem startGate_of_hold {s : State} (h : s.gate.lineHold = true) (r : CutRecord) : s.startGate r = false := by
  rw [State.startGate, h, Bool.not_true, Bool.false_and]

/-- Settles O41: with the gate closed to every record the walk stops at the head of the list. -/
theorem holdClosesTheStartGate : Obligations.HoldClosesTheStartGate :=
  fun _ h => ⟨startGate_of_hold h, reevaluate_of_hold h⟩

/-! ### WATER ROLES and WATER MARKS (R113 to R116) -/

theorem turbidityCritical_eq (g : Gate) (s : State) :
    turbidityCritical g s.water =
      (g.turbidity.bind s.channel?).any fun q =>
        q.reading.any fun r => decide (g.marks.turbCritical < r.value) := by
  show Option.any _ ((g.turbidity.bind s.channel?).bind fun c => c.reading.map Reading.value) = _
  cases g.turbidity.bind s.channel? with
  | none => rfl
  | some q => cases hr : q.reading <;> simp [hr]

/-- The marks are taken when each lies in its range and they stand in order (R114). -/
theorem admitted_iff (m : Marks) :
    m.admitted = true ↔ m.low ≤ 65535 ∧ m.critical ≤ 65535 ∧ m.resume ≤ 65535 ∧ m.turbLimit ≤ 10000 ∧
      m.turbCritical ≤ 10000 ∧ m.critical < m.resume ∧ m.critical < m.low ∧ m.turbLimit ≤ m.turbCritical := by
  simp [Marks.admitted, within, and_assoc]

/-- Settles O39: the owners go through their checks to one evaluation, whose latch is set by its test or goes by its clear
condition, and the walk behind it moves the waiting list alone of the gate. -/
theorem rolesAndMarksEvaluateTheGate : Obligations.RolesAndMarksEvaluateTheGate := by
  refine ⟨fun s h rest o => ⟨fun a b c d hr range distinct defined level turbidity flow makeup => ?roles,
    fun low critical resume limit turb hr => ?marks⟩, fun s => ?rule⟩
  case roles =>
    have ranges : (([a, b, c, d].filterMap id).all channelRange && decide ([a, b, c, d].filterMap id).Nodup) = true :=
      Bool.and_eq_true_iff.2 ⟨range, decide_eq_true distinct⟩
    have owned : waterRolesItem a b c d o s = .ok (s.setRoles a b c d) := by
      rw [waterRolesItem, ranges, ensure_true, defined, ensure_true, level, turbidity, flow, makeup]
      rfl
    exact exec_of_taken (owner := waterRolesItem a b c d) rfl hr owned
  case marks =>
    exact exec_of_ensure (owner := waterMarksItem ⟨low, critical, resume, limit, turb⟩) rfl hr rfl (admitted_iff _)
  case rule =>
    intro t level turbidity low murky clears
    have isLow : levelCritical s.gate s.water = low := levelCritical_eq s.gate s
    have isMurky : turbidityCritical s.gate s.water = murky := turbidityCritical_eq s.gate s
    have isClear : latchClears s.gate s.water = clears := latchClears_eq s.gate s
    have evaluated : t = (s.evaluateLatch (low || murky)).reevaluate := by rw [← isLow, ← isMurky]; rfl
    obtain ⟨⟨waiting, walked⟩, kept⟩ := reevaluate_walked (s.evaluateLatch (low || murky))
    rw [evaluated, walked, kept]
    refine ⟨fun critical => ?_, fun notLow notMurky => ?_, evaluateLatch_lineHold s _⟩
    · obtain ⟨latch, raised⟩ := evaluateLatch_sets s
      rw [Bool.or_eq_true_iff.2 critical, ← isLow]
      exact ⟨latch, raised⟩
    · obtain ⟨latch, same⟩ := evaluateLatch_clears s
      rw [notLow, notMurky, Bool.or_false, ← isClear]
      exact ⟨latch, same⟩

/-! ### LINE HOLD and LINE RELEASE (R118) -/

/-- Line hold recomputed with its walk: of the gate, line hold follows the sources and the waiting list moves (R117). -/
theorem recomputeHoldAndWalk_gate (s : State) :
    ∃ w, s.recomputeHoldAndWalk.gate = { s.gate with lineHold := s.gate.wantsHold, waiting := w } := by
  unfold State.recomputeHoldAndWalk
  dsimp only
  split
  · obtain ⟨⟨w, walked⟩, -⟩ := reevaluate_walked s.recomputeHold
    exact ⟨w, by rw [walked, recomputeHold_gate]⟩
  · exact ⟨s.gate.waiting, recomputeHold_gate s⟩

/-- Where line hold stands as its sources give it, nothing is recomputed and nothing walked. -/
theorem recomputeHoldAndWalk_same {s : State} (h : s.gate.wantsHold = s.gate.lineHold) : s.recomputeHoldAndWalk = s := by
  rw [State.recomputeHoldAndWalk, recomputeHold_same h, Bool.and_not_self]
  rfl

/-- Where a source is active no walk follows: line hold goes or stays ON. -/
theorem recomputeHoldAndWalk_of_wants {s : State} (h : s.gate.wantsHold = true) :
    s.recomputeHoldAndWalk = s.recomputeHold := by
  rw [State.recomputeHoldAndWalk, recomputeHold_gate, h, Bool.not_true, Bool.and_false]
  rfl

/-- Line hold recomputed touches the gate, the broadcasts it orders and the reports alone. -/
theorem unchanged_recomputeHold (s : State) : Unchanged [.gate, .floor, .reports] s s.recomputeHold := by
  intro p hp
  obtain ⟨x, y, line⟩ := recomputeHold_line s
  cases p <;> simp_all [Part.same]

theorem unchanged_setGate (s : State) (g : Gate) : Unchanged [.gate] s (s.setGate g) := by
  intro p hp
  cases p <;> simp_all [Part.same]

theorem setOfficeHold_gate (s : State) (on : Bool) :
    ∃ w, (s.setOfficeHold on).gate = { s.gate with
      officeHold := on, lineHold := s.gate.latch || s.gate.alarmSource || on, waiting := w } :=
  recomputeHoldAndWalk_gate _

@[simp] theorem setOfficeHold_office (s : State) (on : Bool) : (s.setOfficeHold on).office = s.office := by
  simp [State.setOfficeHold]

/-- Where the sources give line hold as it stands, the flag alone is written. -/
theorem setOfficeHold_of_same {s : State} {on : Bool}
    (h : (s.gate.latch || s.gate.alarmSource || on) = s.gate.lineHold) :
    s.setOfficeHold on = s.setGate { s.gate with officeHold := on } :=
  recomputeHoldAndWalk_same h

/-- The flag written as it stands changes nothing. -/
theorem setOfficeHold_of_stands {s : State} {on : Bool} (follows : LineHoldFollows s) (h : s.gate.officeHold = on) :
    s.setOfficeHold on = s := by
  subst h
  exact setOfficeHold_of_same follows.1.symm

theorem unchanged_setOfficeHold_true (s : State) : Unchanged [.gate, .floor, .reports] s (s.setOfficeHold true) := by
  have wants : ({ s.gate with officeHold := true } : Gate).wantsHold = true := Bool.or_true _
  rw [State.setOfficeHold, recomputeHoldAndWalk_of_wants wants]
  exact ((unchanged_setGate s _).mono (by decide)).trans (unchanged_recomputeHold _) (by decide)

/-- Settles O40: both items write the flag; what follows is decided by whether the sources still give line hold as it
stood. -/
theorem officeHoldIsItsOwnSource : Obligations.OfficeHoldIsItsOwnSource := by
  intro s h rest o follows
  have untouched : ∀ {on}, s.gate.officeHold = on → Unchanged [] s (replied (s.setOfficeHold on) h rest .ok []) :=
    fun stands => by
      rw [setOfficeHold_of_stands follows stands]
      exact unchanged_replied (.rfl' s) rfl (.inl List.not_mem_nil)
  refine ⟨fun hr => ?hold, fun hr => ?release⟩
  case hold =>
    obtain ⟨w, gate⟩ := setOfficeHold_gate s true
    refine ⟨_, exec_of_taken (owner := lineHoldItem) rfl hr rfl, ?_, ?_, answered_replied (setOfficeHold_office s true),
      untouched,
      unchanged_replied (unchanged_setOfficeHold_true s) (setOfficeHold_office s true) (.inr (by decide))⟩ <;>
      rw [replied_gate, gate]
    exact Bool.or_true _
  case release =>
    obtain ⟨w, gate⟩ := setOfficeHold_gate s false
    refine ⟨_, exec_of_taken (owner := lineReleaseItem) rfl hr rfl, ?_, ?_,
      answered_replied (setOfficeHold_office s false), untouched, fun other => ?_⟩
    · rw [replied_gate, gate]
    · rw [replied_gate, gate, Bool.or_false]
    · have active : (s.gate.latch || s.gate.alarmSource) = true := Bool.or_eq_true_iff.2 other
      have stays : (s.gate.latch || s.gate.alarmSource || false) = s.gate.lineHold := by
        rw [follows.1, Gate.wantsHold, active]
        rfl
      rw [setOfficeHold_of_same stays]
      exact ⟨replied_gate .., unchanged_replied (unchanged_setGate s _) rfl (.inl (by decide)), rfl⟩

/-! ### Pending LINE_HOLD entries (R119, R170, R171) -/

/-- The lowest and oldest of some entries is one of them. -/
theorem lowestOldest_mem {l : List AlarmEntry} {d : AlarmEntry} (h : lowestOldest l = some d) : d ∈ l := by
  induction l generalizing d with
  | nil => cases h
  | cons e l ih =>
    unfold lowestOldest at h
    split at h
    · cases h
      exact List.mem_cons_self
    · split at h <;> cases h
      · exact List.mem_cons_of_mem _ (ih ‹_›)
      · exact List.mem_cons_self

/-- Whether an entry's kind has the LINE_HOLD action. -/
def Alarms.holds (a : Alarms) (e : AlarmEntry) : Bool := a.actionOf e.kind == .lineHold

theorem holdCount_eq (a : Alarms) : a.holdCount = a.entries.countP a.holds := List.countP_eq_length_filter.symm

theorem holdCount_of_same {a b : Alarms} (actions : b.actions = a.actions) (entries : b.entries = a.entries) :
    b.holdCount = a.holdCount := by
  simp only [Alarms.holdCount, Alarms.actionOf, Alarms.entryOf, actions, entries]

/-- An alarm that gives way has the REPORT action, so no entry of its kind holds the line (R170). -/
theorem holds_of_displaced {a : Alarms} {p : Nat} {d e : AlarmEntry}
    (h : lowestOldest (a.entries.filter (a.displaceable p)) = some d) (same : e.isOf d.kind d.subject = true) :
    a.holds e = false := by
  have gives := (List.mem_filter.1 (lowestOldest_mem h)).2
  simp only [Alarms.displaceable, AlarmEntry.isOf, Bool.and_eq_true, beq_iff_eq] at gives same
  rw [Alarms.holds, same.1, gives.1]
  rfl

/-- A raise adds one pending LINE_HOLD entry when it creates an entry of such a kind, and takes none away: a repeat keeps
the kinds, and what is displaced has the REPORT action (R170, R171). -/
theorem raised_countP (a : Alarms) (k : AlarmKind) (n now : Nat) :
    (a.raised k n now).1.countP a.holds =
      a.holdCount + if (a.raised k n now).2.2 && a.actionOf k == .lineHold then 1 else 0 := by
  have fresh : ∀ e : AlarmEntry, e.kind = k → [e].countP a.holds = if a.actionOf k == .lineHold then 1 else 0 :=
    fun e kind => by rw [List.countP_singleton, Alarms.holds, kind]
  rw [holdCount_eq]
  unfold Alarms.raised
  dsimp only
  split
  next e _ =>
    have kinds : (a.holds ∘ fun f => if f.isOf k n then f.repeated now else f) = a.holds := by
      funext f
      simp only [Function.comp_apply]
      split <;> rfl
    rw [List.countP_map, kinds]
    rfl
  next =>
    split
    · rw [List.countP_append, fresh _ rfl, Bool.true_and]
    · split
      next d lowest =>
        have kept : (a.entries.filter fun e => !e.isOf d.kind d.subject).countP a.holds = a.entries.countP a.holds := by
          rw [List.countP_filter]
          refine List.countP_congr fun e _ => ?_
          cases same : e.isOf d.kind d.subject with
          | true => simp [holds_of_displaced lowest same]
          | false => simp
        rw [List.countP_append, kept, fresh _ rfl, Bool.true_and]
      next => rfl

/-! ### Line hold and its sources (R117, R119) -/

/-- The alarm hold source is active exactly while an entry of a LINE_HOLD kind is pending (R119). -/
def SourceFollows (s : State) : Prop := s.gate.alarmSource = decide (0 < s.alarms.holdCount)

theorem LineHoldFollows.source {s : State} (h : LineHoldFollows s) : SourceFollows s := h.2

theorem SourceFollows.of_same {s t : State} (h : SourceFollows s) (source : t.gate.alarmSource = s.gate.alarmSource)
    (actions : t.alarms.actions = s.alarms.actions) (entries : t.alarms.entries = s.alarms.entries) :
    SourceFollows t := by
  rw [SourceFollows, source, holdCount_of_same actions entries]
  exact h

/-- Line hold recomputed follows its sources. -/
theorem SourceFollows.recomputeHold {s : State} (h : SourceFollows s) : LineHoldFollows s.recomputeHold :=
  ⟨by rw [recomputeHold_gate]; rfl, h.of_same (by simp) (by simp) (by simp)⟩

/-- The state of a raise before the gate is told: the pending alarm table after it, and its ALARM report queued. -/
def State.entered (s : State) (k : AlarmKind) (n : Nat) : State :=
  (s.setAlarms { s.alarms with entries := (s.alarms.raised k n s.seconds).1 }).queueReport
    (.alarm (s.alarms.raised k n s.seconds).2.1)

@[simp] theorem entered_gate (s : State) (k : AlarmKind) (n : Nat) : (s.entered k n).gate = s.gate := by
  simp [State.entered]

theorem entered_holdCount (s : State) (k : AlarmKind) (n : Nat) :
    (s.entered k n).alarms.holdCount = s.alarms.holdCount +
      if (s.alarms.raised k n s.seconds).2.2 && s.alarms.actionOf k == .lineHold then 1 else 0 := by
  rw [← raised_countP, State.entered, holdCount_of_same (queueReport_actions _ _) (queueReport_entries _ _), holdCount_eq]
  rfl

/-- The gate is told of a raise that created the first pending LINE_HOLD entry (R171). -/
theorem raise_eq (s : State) (k : AlarmKind) (n : Nat) :
    s.raise k n =
      if ((s.alarms.raised k n s.seconds).2.2 && s.alarms.actionOf k == .lineHold) && s.alarms.holdCount == 0 then
        (s.entered k n).tellAlarmSource true
      else s.entered k n := by
  have action : (s.entered k n).alarms.actionOf k = s.alarms.actionOf k := by
    simp [State.entered, Alarms.actionOf, Alarms.entryOf]
  rw [← action]
  rfl

/-- A raise leaves the source as the pending entries give it, since the gate is told of the first of them; and line hold
follows where it followed before. -/
theorem raise_follows {s : State} (h : SourceFollows s) (k : AlarmKind) (n : Nat) :
    SourceFollows (s.raise k n) ∧ (LineHoldFollows s → LineHoldFollows (s.raise k n)) := by
  rw [raise_eq]
  have count := entered_holdCount s k n
  generalize ((s.alarms.raised k n s.seconds).2.2 && s.alarms.actionOf k == .lineHold) = creates at count ⊢
  split
  next first =>
    obtain ⟨rfl, zero⟩ := Bool.and_eq_true_iff.1 first
    have one : 0 < (s.entered k n).alarms.holdCount := by rw [count]; simp
    have told : SourceFollows ((s.entered k n).setGate { (s.entered k n).gate with alarmSource := true }) :=
      (decide_eq_true one).symm
    exact ⟨told.recomputeHold.2, fun _ => told.recomputeHold⟩
  next other =>
    have moved : SourceFollows (s.entered k n) := by
      rw [SourceFollows, entered_gate, h, count]
      cases creates with
      | false => rfl
      | true =>
        have pending : s.alarms.holdCount ≠ 0 := by simpa using other
        simp [Nat.pos_of_ne_zero pending]
    exact ⟨moved, fun follows => ⟨by rw [entered_gate]; exact follows.1, moved⟩⟩

theorem SourceFollows.raise {s : State} (h : SourceFollows s) (k : AlarmKind) (n : Nat) : SourceFollows (s.raise k n) :=
  (raise_follows h k n).1

theorem LineHoldFollows.raise {s : State} (h : LineHoldFollows s) (k : AlarmKind) (n : Nat) :
    LineHoldFollows (s.raise k n) := (raise_follows h.source k n).2 h

/-! ### What line hold rests on, left as it was -/

/-- From `s` to `t` the gate and the alarm unit stay as they are. -/
def HoldUntouched (s t : State) : Prop := t.gate = s.gate ∧ t.alarms = s.alarms

@[simp] theorem holdUntouched_iff {s t : State} : HoldUntouched s t ↔ t.gate = s.gate ∧ t.alarms = s.alarms := .rfl

section Same

variable {s t : State} (h : LineHoldFollows s)
include h

theorem LineHoldFollows.of_tables (gate : t.gate = s.gate) (actions : t.alarms.actions = s.alarms.actions)
    (entries : t.alarms.entries = s.alarms.entries) : LineHoldFollows t :=
  ⟨by rw [gate]; exact h.1, h.source.of_same (by rw [gate]) actions entries⟩

theorem LineHoldFollows.of_same (gate : t.gate = s.gate) (alarms : t.alarms = s.alarms) : LineHoldFollows t :=
  h.of_tables gate (by rw [alarms]) (by rw [alarms])

theorem LineHoldFollows.of_untouched (untouched : HoldUntouched s t) : LineHoldFollows t :=
  h.of_same untouched.1 untouched.2

theorem LineHoldFollows.of_arbiters (frame : ArbiterFrame s t) : LineHoldFollows t :=
  h.of_tables frame.gate frame.actions frame.entries

theorem LineHoldFollows.finish : LineHoldFollows s.finish := h.of_arbiters (finish_frame s)

theorem LineHoldFollows.queueReport (b : ReportBody) : LineHoldFollows (s.queueReport b) :=
  h.of_tables (State.queueReport_gate _ _) (queueReport_actions _ _) (queueReport_entries _ _)

theorem LineHoldFollows.stockReport (e : StockEvent) (id : Nat) : LineHoldFollows (s.stockReport e id) := h.queueReport _

theorem LineHoldFollows.putJob (j : Job) : LineHoldFollows (s.putJob j) := h

end Same

/-! ### Records that end (R57, R61, R63, R125) -/

section Records

variable {s : State} (h : LineHoldFollows s)
include h

theorem LineHoldFollows.finishRecord (r : CutRecord) (u : Option Ending) (p : CutReport) :
    LineHoldFollows (s.finishRecord r u p) := by
  obtain ⟨⟨w, gate⟩, entries⟩ := finishRecord_walked s r u p
  have actions : (s.finishRecord r u p).alarms.actions = s.alarms.actions := by
    unfold State.finishRecord
    dsimp only
    (repeat' split) <;> simp
  exact LineHoldFollows.of_tables (s := s.setGate { s.gate with waiting := w }) h gate actions entries

theorem LineHoldFollows.endRecord (r : CutRecord) (e : Ending) (b : Bool) : LineHoldFollows (s.endRecord r e b) := by
  refine LineHoldFollows.finishRecord ?_ _ _ _
  split
  · exact h.of_same (State.unresolve_gate _ _ _) (State.unresolve_alarms _ _ _)
  · exact h.of_same (State.giveBack_gate _ _ _) (State.giveBack_alarms _ _ _)

theorem LineHoldFollows.endAll (ids : List Nat) (e : Ending) : LineHoldFollows (s.endAll ids e) :=
  List.foldlRecOn ids _ h fun u hu id _ => by
    split
    · exact hu
    · exact hu.endRecord _ _ _

theorem LineHoldFollows.faultSweep (n : Nat) : LineHoldFollows (s.faultSweep n) := h.endAll _ _

theorem LineHoldFollows.endWaiting (n : Nat) (e : Ending) : LineHoldFollows (s.endWaiting n e) :=
  List.foldlRecOn (s.slotsOf n) _ h fun u hu id _ => by
    split
    · exact hu
    · split
      · exact hu.endRecord _ _ _
      · exact hu

theorem LineHoldFollows.startFailed (n id : Nat) : LineHoldFollows (s.startFailed n id).1 := by
  unfold State.startFailed
  split
  · split
    · exact h.endRecord _ _ _
    · exact h
  · exact h

theorem LineHoldFollows.cutterLost (n : Nat) : LineHoldFollows (s.cutterLost n).1 := by
  unfold State.cutterLost
  split
  · exact h
  next c _ => exact LineHoldFollows.endAll (s := s.putCutter { c with state := .faulted, holdMark := false }) h _ _

theorem LineHoldFollows.forward (r : CutRecord) : LineHoldFollows (s.forward r) := by
  have sent : LineHoldFollows (s.putRecord { r with state := .sent }) := h
  unfold State.forward State.enqueue
  by_cases room : s.line.queue.length < Config.maxCommands
  · simp only [State.putRecord_line, if_pos room]
    exact h
  · simp only [State.putRecord_line, if_neg room]
    exact sent.startFailed _ _

theorem LineHoldFollows.reevaluate : LineHoldFollows s.reevaluate := by
  unfold State.reevaluate
  generalize s.gate.waiting.length = n
  induction n generalizing s with
  | zero => exact h
  | succ n ih =>
    unfold State.walk
    split
    · exact h
    next id rest _ =>
      have popped : LineHoldFollows (s.setGate { s.gate with waiting := rest }) := h
      split
      · exact h
      · split
        · exact ih (popped.forward _)
        · exact h

theorem LineHoldFollows.reevaluateIf (b : Bool) : LineHoldFollows (s.reevaluateIf b) := by
  unfold State.reevaluateIf
  split
  · exact h.reevaluate
  · exact h

theorem LineHoldFollows.gateNew (r : CutRecord) : LineHoldFollows (s.gateNew r).1 := by
  unfold State.gateNew
  split
  · exact h.forward r
  · exact h

end Records

/-! ### Sources that change (R116 to R119, R171) -/

/-- Line hold stands as its sources give it after every evaluation of the latch, also where the latch was set and its alarm
raised before. -/
theorem SourceFollows.evaluateLatch {s : State} (h : SourceFollows s) (test : Bool) :
    LineHoldFollows (s.evaluateLatch test) := by
  refine SourceFollows.recomputeHold ?_
  split
  · unfold State.setLatch
    split
    · exact h
    · exact SourceFollows.raise (s := s.setGate { s.gate with latch := true }) h _ _
  · unfold State.clearLatch
    split <;> exact h

theorem SourceFollows.recomputeHoldAndWalk {s : State} (h : SourceFollows s) : LineHoldFollows s.recomputeHoldAndWalk := by
  unfold State.recomputeHoldAndWalk
  dsimp only
  split
  · exact h.recomputeHold.reevaluate
  · exact h.recomputeHold

/-- Whether a number is above 0, by the comparison the alarm unit makes. -/
theorem decide_pos_eq (n : Nat) : decide (0 < n) = !(n == 0) := by cases n <;> rfl

section Sources

variable {s : State} (h : LineHoldFollows s)
include h

theorem LineHoldFollows.waterItem : LineHoldFollows s.waterItem := (h.source.evaluateLatch _).reevaluate

theorem LineHoldFollows.setRoles (l t r m : Option Nat) : LineHoldFollows (s.setRoles l t r m) :=
  LineHoldFollows.waterItem (s := s.setGate { s.gate with
    level := l, turbidity := t, returnFlow := r, makeup := m
    makeupRef := if m = s.gate.makeup then s.gate.makeupRef else none }) h

theorem LineHoldFollows.setOfficeHold (on : Bool) : LineHoldFollows (s.setOfficeHold on) :=
  SourceFollows.recomputeHoldAndWalk (s := s.setGate { s.gate with officeHold := on }) h.source

/-- Other alarm tables: the gate is told where the number of LINE_HOLD entries moves across 0, and the source stands rightly
where it does not. -/
theorem LineHoldFollows.changeAlarms (a : Alarms) : LineHoldFollows (s.changeAlarms a) := by
  unfold State.changeAlarms
  dsimp only
  split
  next same =>
    refine ⟨h.1, ?_⟩
    show s.gate.alarmSource = decide (0 < a.holdCount)
    rw [h.2, decide_pos_eq, decide_pos_eq, same]
  next =>
    refine SourceFollows.recomputeHoldAndWalk ?_
    exact (decide_pos_eq a.holdCount).symm

end Sources

/-! ### Operations that raise (R170) -/

section Raises

variable {s : State} (h : LineHoldFollows s)
include h

/-- Any one alarm that is raised under a condition. -/
theorem LineHoldFollows.raiseIf (p : Prop) [Decidable p] (k : AlarmKind) (n : Nat) :
    LineHoldFollows (if p then s.raise k n else s) := by
  split
  · exact h.raise k n
  · exact h

theorem LineHoldFollows.addCharge (n : Nat) (c : Charge) : LineHoldFollows (s.addCharge n c) :=
  addCharge_keeps (h.putJob _) fun _ k hu => hu.raise k n

theorem LineHoldFollows.chargeStone (n a b : Nat) : LineHoldFollows (s.chargeStone n a b) := h.addCharge _ _

theorem LineHoldFollows.chargeMakeup (n : Nat) : LineHoldFollows (s.chargeMakeup n) :=
  chargeMakeup_keeps (fun _ c hu => hu.addCharge 0 c) n h

theorem LineHoldFollows.requote (n : Nat) (q : Option Nat) : LineHoldFollows (s.requote n q) :=
  (h.putJob _).raiseIf _ _ _

theorem LineHoldFollows.wearTool (n a : Nat) : LineHoldFollows (s.wearTool n a) := by
  unfold State.wearTool
  split
  · exact h
  next c _ =>
    have worn : LineHoldFollows (s.putCutter { c with life := c.life - a }) := h
    exact (worn.raiseIf _ _ _).raiseIf _ _ _

theorem LineHoldFollows.changeCutter (n : Nat) (f : Cutter → Cutter) : LineHoldFollows (s.changeCutter n f) :=
  h.of_same (State.changeCutter_gate _ _ _) (State.changeCutter_alarms _ _ _)

theorem LineHoldFollows.faultCutter (n : Nat) : LineHoldFollows (s.faultCutter n) := h.changeCutter _ _

theorem LineHoldFollows.timeOut (r : CutRecord) : LineHoldFollows (s.timeOut r) :=
  (((h.endRecord r _ _).faultCutter _).raise _ _).faultSweep _

theorem LineHoldFollows.mismatch (c : Cutter) : LineHoldFollows (s.mismatch c) :=
  ((h.raise _ _).faultCutter _).endAll _ _

theorem LineHoldFollows.applyCompletion (id n : Nat) (e : CutEnd) (k : Nat) (l : List Nat) :
    LineHoldFollows (s.applyCompletion id n e k l).1 := by
  unfold State.applyCompletion
  split
  · split
    · refine LineHoldFollows.of_same ?_ (State.project_gate _ _) (State.project_alarms _ _)
      exact h
    · exact h
  · exact h

theorem LineHoldFollows.startQueued (n : Nat) : LineHoldFollows (s.startQueued n) := by
  unfold State.startQueued
  split <;> exact h

theorem LineHoldFollows.takeCompletion (c : Cutter) (r : CutRecord) (m : Completion) :
    LineHoldFollows (s.takeCompletion c r m) := by
  have applied := h.applyCompletion r.slab r.number m.ending (min m.pieces r.pieces.length) m.lengths
  unfold State.takeCompletion
  generalize s.applyCompletion r.slab r.number m.ending (min m.pieces r.pieces.length) m.lengths = result at applied ⊢
  obtain ⟨u, hand⟩ := result
  dsimp only at applied ⊢
  generalize u.cutCharge c r m hand _ = charge
  have taken := (applied.addCharge r.job charge).changeCutter r.onCutter fun k => { k with lastTaken := some m.echo }
  have worn := (taken.finishRecord r none (r.takenReport m.ending hand charge)).wearTool r.onCutter
    (min m.travel r.travel * (((s.slab? r.slab).map Slab.thickness).getD 0 + c.settings.overcut))
  have ended := worn.endWaiting r.onCutter (.failed .toolWorn)
  split <;> split
  · exact ((ended.faultCutter _).raise _ _).faultSweep _
  · exact ((worn.faultCutter _).raise _ _).faultSweep _
  · exact ended.startQueued _
  · exact worn.startQueued _

theorem LineHoldFollows.lateCompletion (c : Cutter) (u : Uncertain) (m : Completion) :
    LineHoldFollows (s.lateCompletion c u m) := by
  have left : LineHoldFollows (s.putCutter { c with uncertain := c.uncertain.erase u }) := h
  exact (left.raise _ _).queueReport _

theorem LineHoldFollows.completion (c : Cutter) (m : Completion) : LineHoldFollows (s.completion c m) := by
  unfold State.completion
  split
  · exact (h.takeCompletion _ _ _).reevaluate
  · exact h
  · exact h.lateCompletion _ _ _
  · exact (h.mismatch _).reevaluateIf _

/-! ### Channels and samples (R98, R100, R108, R109, R121) -/

theorem LineHoldFollows.writeChannel (x : Channel) (k : AlarmKind) (b : Bool) : LineHoldFollows (s.writeChannel x k b) :=
  writeChannel_keeps h fun put => put.raise _ _

theorem LineHoldFollows.makeupSample (rate now : Nat) : LineHoldFollows (s.makeupSample rate now) := by
  cases ref : s.gate.makeupRef with
  | none =>
    rw [makeupSample_of_first rate now ref]
    exact h
  | some t =>
    rw [makeupSample_of_ref rate now ref]
    exact LineHoldFollows.chargeMakeup (s := s.makeupCounted rate now t) h _

theorem LineHoldFollows.gateSample (n value time : Nat) : LineHoldFollows (s.gateSample n value time) := by
  unfold State.gateSample
  split
  · exact (h.source.evaluateLatch _).reevaluate
  · exact (h.source.evaluateLatch _).reevaluate
  · exact h.reevaluate
  · exact h.makeupSample _ _
  · exact h

theorem LineHoldFollows.dealWith (n i : Nat) (o : PollOutcome) : LineHoldFollows (s.dealWith n i o) := by
  unfold State.dealWith
  split
  · split
    · split
      · rw [goodValue_eq]
        exact (h.writeChannel _ _ _).gateSample _ _ _
      · rw [invalidValue_eq]
        exact h.writeChannel _ _ _
    · exact h
  · exact h

theorem LineHoldFollows.defineChannel (n a i : Nat) (k : ChannelKind) (low high : Option Nat) :
    LineHoldFollows (s.defineChannel n a i k low high) := by
  unfold State.defineChannel
  dsimp only
  split
  · exact h
  · split
    · rw [recompare_eq]
      exact h.writeChannel _ _ _
    · split
      · exact h
      · rw [enterStale_eq]
        exact h.writeChannel _ _ _

/-! ### The stock table (R3 to R9, R16 to R18) -/

theorem LineHoldFollows.flawsChanged (id : Nat) (old new : List Zone) : LineHoldFollows (s.flawsChanged id old new) :=
  (h.of_same (State.project_gate _ _) (State.project_alarms _ _)).raiseIf _ _ _

theorem LineHoldFollows.scan (a : Nat) (d : ScanData) : LineHoldFollows (s.scan a d).1 := by
  unfold State.scan
  split
  · split
    next sl _ =>
      have updated := LineHoldFollows.stockReport (s := s.putSlab { sl with
        zones := d.zones.filterMap fun z => zoneClip z sl.length sl.width }) h .updated sl.id
      unfold State.rescan
      dsimp only
      split
      · exact updated.flawsChanged _ _ _
      · exact updated
    · split
      · exact LineHoldFollows.stockReport (s := s.putSlab d.record) h _ _
      · exact h.raise _ _
  · exact h

theorem LineHoldFollows.cleared (sl : Slab) : LineHoldFollows (s.cleared sl) :=
  LineHoldFollows.stockReport (s := s.dropSlab sl.id) h _ _

theorem LineHoldFollows.discarded (sl : Slab) : LineHoldFollows (s.discarded sl) := by
  obtain ⟨-, e⟩ | ⟨b, -, e⟩ := discarded_cases s sl <;> rw [e]
  · exact h.cleared sl
  · exact (h.cleared sl).chargeStone _ _ _

theorem LineHoldFollows.evict (sl : Slab) : LineHoldFollows (s.evict sl) := by
  have gone : LineHoldFollows (s.dropSlab sl.id) := h
  exact ((gone.chargeStone 0 (sl.length * sl.width) (sl.basis.getD 0)).raise _ _).stockReport _ _

theorem LineHoldFollows.createRemnant (sl : Slab) (slot : Nat) : LineHoldFollows (s.createRemnant sl slot) := by
  refine LineHoldFollows.stockReport ?_ _ _
  exact h

theorem LineHoldFollows.chargeScrap (sl : Slab) (job scrap : Nat) : LineHoldFollows (s.chargeScrap sl job scrap) := by
  unfold State.chargeScrap
  split
  · exact h
  · exact h.chargeStone _ _ _

theorem LineHoldFollows.unloadSequence (sl : Slab) (job : Nat) : LineHoldFollows (s.unloadSequence sl job) := by
  have cleared := h.cleared sl
  by_cases hk : s.keepsFront sl
  · cases free : lowestFree (s.dropSlab sl.id).usedSlots 24 with
    | some slot =>
      rw [unloadSequence_of_slot hk free]
      exact (cleared.createRemnant _ _).chargeScrap _ _ _
    | none =>
      cases he : (s.dropSlab sl.id).evictable with
      | some e =>
        rw [unloadSequence_of_full hk free he]
        exact ((cleared.evict e).createRemnant _ _).chargeScrap _ _ _
      | none =>
        rw [unloadSequence_of_stuck hk free he]
        exact (cleared.raise _ _).chargeScrap _ _ _
  · rw [unloadSequence_of_small hk]
    exact cleared.chargeScrap _ _ _

theorem LineHoldFollows.unloaded (c : Cutter) (id : Nat) : LineHoldFollows (s.unloaded c id) := by
  have dropped : LineHoldFollows (s.dropPlan id) := h
  refine LineHoldFollows.changeCutter ?_ _ _
  split
  · exact dropped
  · exact dropped.unloadSequence _ _

end Raises

/-! ### What is due (R63, R65, R71, R100; log entry 2) -/

section Due

variable {s t : State} (h : LineHoldFollows s)
include h

theorem LineHoldFollows.takeReport (r : LineReport) : LineHoldFollows (s.takeReport r) := by
  cases r with
  | startFailed n id => exact (h.startFailed n id).reevaluateIf _
  | abortFailed n => exact h
  | unreachable n => exact (h.cutterLost n).reevaluateIf _

theorem LineHoldFollows.timeOutId (id : Nat) : LineHoldFollows (s.timeOutId id) := by
  unfold State.timeOutId
  split
  · exact h
  · split
    · exact (h.timeOut _).reevaluate
    · exact h

theorem LineHoldFollows.staleId (n : Nat) : LineHoldFollows (s.staleId n) := by
  unfold State.staleId
  split
  · exact h
  · split
    · rw [enterStale_eq]
      exact h.writeChannel _ _ _
    · exact h

theorem LineHoldFollows.startDuePass : LineHoldFollows s.startDuePass := h.of_arbiters (startDuePass_frame s)

theorem LineHoldFollows.takeDue (due : s.takeDue = some t) : LineHoldFollows t := by
  unfold State.takeDue at due
  split at due
  next r rest _ =>
    cases due
    exact LineHoldFollows.takeReport (s := s.setLine { s.line with reports := rest }) h r
  next =>
    split at due
    next id _ _ =>
      cases due
      exact h.timeOutId id
    next =>
      split at due
      next n rest _ =>
        cases due
        exact LineHoldFollows.staleId (s := s.setWater { s.water with staleDue := rest }) h n
      next =>
        split at due
        · cases due
          exact h.startDuePass
        · split at due <;> cases due
          exact h

theorem LineHoldFollows.settle : LineHoldFollows s.settle :=
  settle_keeps (P := LineHoldFollows) (fun _ _ hu due => (hu.takeDue due).finish) s h

theorem LineHoldFollows.takeOneReport (r : LineReport) : LineHoldFollows (s.takeOneReport r) := by
  unfold State.takeOneReport
  split
  · exact (LineHoldFollows.takeReport (s := s.setLine { s.line with reports := s.line.reports.erase r }) h r).finish
  · exact h

/-! ### Transactions of the floor line (R132, R133, R137, R143) -/

theorem LineHoldFollows.freeLine : LineHoldFollows s.freeLine := h

theorem LineHoldFollows.creditStation (a : Nat) : LineHoldFollows (s.creditStation a) :=
  h.of_same (State.creditStation_gate _ _) (State.creditStation_alarms _ _)

theorem LineHoldFollows.commandAttemptFailed : LineHoldFollows s.commandAttemptFailed :=
  h.of_same (State.commandAttemptFailed_gate _) (State.commandAttemptFailed_alarms _)

theorem LineHoldFollows.readerPolled (a : Nat) : LineHoldFollows (s.readerPolled a) :=
  h.of_same (State.readerPolled_gate _ _) (State.readerPolled_alarms _ _)

theorem LineHoldFollows.slotMissed (r : SlotRef) : LineHoldFollows (s.slotMissed r) :=
  h.of_same (State.slotMissed_gate _ _) (State.slotMissed_alarms _ _)

theorem LineHoldFollows.scanPollOver : LineHoldFollows s.scanPollOver := by
  have landed := h.of_arbiters (landed_frame s)
  unfold State.scanPollOver
  dsimp only
  split
  · exact landed.of_arbiters (engineAdvance_frame _)
  · exact landed

theorem LineHoldFollows.loseStation (st : Station) : LineHoldFollows (s.loseStation st) :=
  LineHoldFollows.raise (s := s.putStation { st with link := .unreachable, failures := Config.unreachableAfter }) h _ _

theorem LineHoldFollows.failStation (a : Nat) : LineHoldFollows (s.failStation a) := by
  unfold State.failStation State.stationLost
  dsimp only
  split
  · exact h
  next st _ =>
    have lost := h.loseStation st
    split
    · split
      · split <;> exact lost
      · exact lost
    · exact h

theorem LineHoldFollows.retryFailed (r : SlotRef) : LineHoldFollows (s.retryFailed r) := by
  have unacked : LineHoldFollows (s.raise .holdUnacked r.onCutter).dropMissed := h.raise _ _
  unfold State.retryFailed
  dsimp only
  split
  · exact unacked
  next st _ =>
    have lost := unacked.loseStation st
    split
    · exact unacked
    · split <;> exact lost

theorem LineHoldFollows.retryAttemptFailed (r : SlotRef) (lost : Bool) :
    LineHoldFollows (s.retryAttemptFailed r lost) := by
  unfold State.retryAttemptFailed
  split
  · exact h.retryFailed r
  · exact h

theorem LineHoldFollows.txFailed (t : Tx) : LineHoldFollows (s.txFailed t) := by
  have freed := (h.failStation t.address).freeLine
  obtain ⟨kind, a, p⟩ := t
  cases kind with
  | command => exact freed.commandAttemptFailed
  | retry r => exact freed.retryAttemptFailed _ _
  | scanPoll n i run => exact freed.scanPollOver
  | poll => exact freed.readerPolled _

theorem LineHoldFollows.txNothing (t : Tx) : LineHoldFollows (s.txNothing t) := by
  have freed := (h.creditStation t.address).freeLine
  obtain ⟨kind, a, p⟩ := t
  cases kind with
  | command => exact freed.commandAttemptFailed
  | retry r => exact freed.retryAttemptFailed _ _
  | scanPoll n i run => exact freed.scanPollOver
  | poll => exact freed.readerPolled _

theorem LineHoldFollows.txAcked (t : Tx) : LineHoldFollows (s.txAcked t) := by
  have freed := (h.creditStation t.address).freeLine
  obtain ⟨kind, a, p⟩ := t
  cases kind with
  | command => exact freed.of_same (State.commandAcked_gate _) (State.commandAcked_alarms _)
  | retry r => exact freed.of_same (State.retryAcked_gate _ _) (State.retryAcked_alarms _ _)
  | scanPoll n i run => exact freed.scanPollOver
  | poll => exact freed.readerPolled _

theorem LineHoldFollows.txClosed (t : Tx) (o : PollOutcome) : LineHoldFollows (s.txClosed t o) := by
  have freed := h.freeLine
  obtain ⟨kind, a, p⟩ := t
  cases kind with
  | command => exact freed.commandAttemptFailed
  | retry r => exact freed.retryAttemptFailed _ _
  | scanPoll n i run => exact (freed.dealWith _ _ _).scanPollOver
  | poll => exact freed.readerPolled _

theorem LineHoldFollows.floorFrameBegins : LineHoldFollows s.floorFrameBegins := by
  unfold State.floorFrameBegins
  split <;> exact h

theorem LineHoldFollows.floorFrameGone : LineHoldFollows s.floorFrameGone := by
  unfold State.floorFrameGone
  split
  · split
    · exact h
    · exact h.txClosed _ _
    · exact h
  · exact h.of_same (State.nextSlot_gate _) (State.nextSlot_alarms _)
  · exact h

theorem LineHoldFollows.windowExpires : LineHoldFollows s.windowExpires := by
  unfold State.windowExpires
  split
  · split
    · split
      · exact h
      · exact h.txFailed _
    · exact h
  · split
    · exact h
    · exact h.slotMissed _
  all_goals exact h

theorem LineHoldFollows.badFrame : LineHoldFollows s.badFrame := by
  have hunted : LineHoldFollows s.hunt := h
  unfold State.badFrame
  split
  · exact h
  · exact hunted
  · dsimp only
    split
    · exact hunted
    · exact hunted
    · exact hunted.slotMissed _
    · split
      · exact hunted.txFailed _
      all_goals exact hunted

theorem LineHoldFollows.slotOther (r : SlotRef) (a : Nat) : LineHoldFollows (s.slotOther r a) := by
  refine LineHoldFollows.slotMissed ?_ r
  split
  · exact h.creditStation _
  · exact h

/-- A good frame is discarded, or goes on as a reply or to a slot. -/
theorem LineHoldFollows.goodFrame {a : Nat} {onReply : Tx → State → State} {onSlot : SlotRef → State → State}
    (reply : ∀ t u, LineHoldFollows u → LineHoldFollows (onReply t u))
    (slot : ∀ r u, LineHoldFollows u → LineHoldFollows (onSlot r u)) : LineHoldFollows (s.goodFrame a onReply onSlot) := by
  have hunted : LineHoldFollows s.hunt := h
  unfold State.goodFrame
  split
  · exact h
  · exact hunted
  · unfold State.foreignFrame
    split
    · exact hunted.txFailed _
    · exact hunted
  · exact reply _ _ hunted
  · exact slot _ _ hunted

theorem LineHoldFollows.answered (t : Tx) {pass : State → State × Bool} (o : PollOutcome)
    (passes : ∀ u, LineHoldFollows u → LineHoldFollows (pass u).1) : LineHoldFollows (s.answered t pass o) := by
  have credited := h.creditStation t.address
  unfold State.answered
  split
  · exact passes _ credited
  · exact credited

theorem LineHoldFollows.passCompletion (a : Nat) (m : Completion) : LineHoldFollows (passCompletion a m s).1 := by
  unfold Machine.passCompletion
  split
  · split
    · exact h.completion _ _
    · exact h
  · exact h

theorem LineHoldFollows.passScan (a : Nat) (d : ScanData) : LineHoldFollows (passScan a d s).1 := by
  unfold Machine.passScan
  split
  · exact h.scan _ _
  · exact h

/-! ### The office port and the frame in hand (R148 to R154) -/

theorem LineHoldFollows.frameBegins : LineHoldFollows s.frameBegins := by
  unfold State.frameBegins
  split <;> exact h

theorem LineHoldFollows.headerArrives (header : List Byte) : LineHoldFollows (s.headerArrives header) := by
  unfold State.headerArrives
  (repeat' split) <;> exact h

theorem LineHoldFollows.frameArrives (rest : List Byte) : LineHoldFollows (s.frameArrives rest) := by
  unfold State.frameArrives
  dsimp only
  (repeat' split) <;> exact h

theorem LineHoldFollows.answerItem (f : InHand) (rest : List RawItem) (r : Result) :
    LineHoldFollows (s.answerItem f rest r) := by
  unfold State.answerItem
  split <;> exact h

theorem LineHoldFollows.takeFrame : LineHoldFollows s.takeFrame := by
  unfold State.takeFrame
  split
  · dsimp only
    split <;> exact h
  · exact h

theorem LineHoldFollows.refuseBadItem : LineHoldFollows s.refuseBadItem := by
  unfold State.refuseBadItem
  split
  · exact h
  · split
    · exact h
    · split
      · exact h.answerItem _ _ _
      · exact h

/-! ### Items (R151, R153) -/

/-- What its owner keeps, an item keeps; one that is denied or refused keeps line hold with its state. -/
theorem LineHoldFollows.itemStep {i : Instr} {area : Area} {owner : Origin → State → Owned}
    (owned : ∀ o u, LineHoldFollows u → (owner o u).leaves LineHoldFollows) :
    LineHoldFollows (s.itemStep i area owner) := by
  have settled := h.settle
  refine LineHoldFollows.finish ?_
  split
  · exact settled
  · split
    · exact settled
    · split
      · unfold State.takeItem
        split
        · exact settled.answerItem _ _ _
        next o _ =>
          split
          · have left := owned o _ settled
            cases answer : owner o s.settle with
            | taken code data t =>
              rw [answer] at left
              exact LineHoldFollows.answerItem left _ _ _
            | refused code => exact settled.answerItem _ _ _
          · exact settled.answerItem _ _ _
      · exact settled

/-- An item whose owner leaves the gate and the alarm unit alone. -/
theorem LineHoldFollows.itemStep_of_untouched {i : Instr} {area : Area} {owner : Origin → State → Owned}
    (kept : ∀ o u, (owner o u).leaves (HoldUntouched u)) :
    LineHoldFollows (s.itemStep i area owner) :=
  h.itemStep fun o u hu => leaves_mono (fun _ untouched => hu.of_untouched untouched) (kept o u)

end Due

/-! ### What the items do (R40, R60, R72, R73, R146) -/

section ItemEffects

variable {s : State} (h : LineHoldFollows s)
include h

theorem LineHoldFollows.acceptUnresolved (id : Nat) (st : Step) : LineHoldFollows (s.acceptUnresolved id st) :=
  (h.applyCompletion id st.number .done 0 []).addCharge _ _

theorem LineHoldFollows.changeStep_project (id n : Nat) (f : Step → Step) :
    LineHoldFollows ((s.changeStep id n f).project id) :=
  (h.of_same (State.changeStep_gate _ _ _ _) (State.changeStep_alarms _ _ _ _)).of_same (State.project_gate _ _)
    (State.project_alarms _ _)

theorem LineHoldFollows.rule (id : Nat) (st : Step) (ruling : Nat) : LineHoldFollows (s.rule id st ruling) := by
  unfold State.rule
  split
  · exact h.changeStep_project _ _ _
  · split
    · split
      · exact h.acceptUnresolved _ _
      · exact h.changeStep_project _ _ _
    · exact h.changeStep_project _ _ _

theorem LineHoldFollows.accept (id : Nat) (c : Cutter) (sl : Slab) (st : Step) :
    LineHoldFollows (s.accept id c sl st).1 := by
  refine LineHoldFollows.gateNew ?_ _
  refine LineHoldFollows.of_same ?_ (State.issueStep_gate _ _ _) (State.issueStep_alarms _ _ _)
  exact h

theorem LineHoldFollows.aborted (c : Cutter) : LineHoldFollows (s.aborted c) := by
  have ended := h.endWaiting c.number (.failed .aborted)
  refine LineHoldFollows.reevaluateIf ?_ _
  split
  · refine LineHoldFollows.of_same ?_ (State.enqueueAbort_gate _ _) (State.enqueueAbort_alarms _ _)
    exact ended
  · exact ended

theorem LineHoldFollows.restartCutter (n : Nat) : LineHoldFollows (s.restartCutter n) := by
  refine LineHoldFollows.changeCutter ?_ _ _
  split
  · exact h.endAll _ _
  · exact ((h.endAll _ _).faultCutter n).faultSweep n

theorem LineHoldFollows.restartWork : LineHoldFollows s.restartWork := by
  have restarted := List.foldlRecOn (motive := LineHoldFollows) (s.cutting.cutters.map Cutter.number)
    State.restartCutter h fun _ hu n _ => hu.restartCutter n
  refine LineHoldFollows.reevaluateIf ?_ _
  exact restarted

theorem LineHoldFollows.restartLine : LineHoldFollows s.restartLine := by
  unfold State.restartLine
  dsimp only
  split
  · refine LineHoldFollows.of_same ?_ (State.orderBroadcast_gate _ _) (State.orderBroadcast_alarms _ _)
    exact h
  · exact h

/-- A restart keeps every field of the gate but the waiting list (R111, R146). -/
theorem LineHoldFollows.floorRestart : LineHoldFollows s.dropInFlight.restartStations.restartWork.restartLine := by
  have dropped : LineHoldFollows s.dropInFlight.restartStations := h
  exact dropped.restartWork.restartLine

theorem LineHoldFollows.recompare (ch : Channel) : LineHoldFollows (s.recompare ch) := by
  rw [recompare_eq]
  exact h.writeChannel _ _ _

theorem LineHoldFollows.takeAlarmItem (o : Origin) : (takeAlarmItem o s).leaves LineHoldFollows := by
  unfold Machine.takeAlarmItem
  split
  · exact h
  · exact h.changeAlarms _

end ItemEffects

/-! ### Items that leave the gate and the alarm unit alone -/

section Untouched

variable (o : Origin) (u : State)

@[simp] theorem reserved_gate (sl : Slab) (j : Nat) : (u.reserved sl j).gate = u.gate := by
  rw [reserved_eq_setStock]; rfl

@[simp] theorem reserved_alarms (sl : Slab) (j : Nat) : (u.reserved sl j).alarms = u.alarms := by
  rw [reserved_eq_setStock]; rfl

theorem findRemnantItem_untouched (l w : Nat) (lot : Option Nat) :
    (findRemnantItem l w lot o u).leaves (HoldUntouched u) := by
  refine (leaves_ensure _ _ _).2 fun _ => ?_
  split <;> exact ⟨rfl, rfl⟩

theorem redefineCutter_untouched (c : Cutter) (a : Nat) (k : CutterKind) (st : CutterSettings) :
    HoldUntouched u (u.redefineCutter c a k st) := by
  unfold State.redefineCutter
  dsimp only
  split <;> exact ⟨rfl, rfl⟩

theorem cutterItem_untouched (n a k : Nat) (st : CutterSettings) :
    (cutterItem n a k st o u).leaves (HoldUntouched u) := by
  refine (leaves_need _ _ _).2 fun kind _ => (leaves_ensure _ _ _).2 fun _ => ?_
  split
  · exact ⟨rfl, rfl⟩
  · exact (leaves_ensure _ _ _).2 fun _ => redefineCutter_untouched u _ _ _ _

theorem stationItem_untouched (a k : Nat) : (stationItem a k o u).leaves (HoldUntouched u) := by
  refine (leaves_need _ _ _).2 fun kind _ => (leaves_ensure _ _ _).2 fun _ => (leaves_ensure _ _ _).2 fun _ => ?_
  split
  · exact ⟨rfl, rfl⟩
  · split
    · exact ⟨rfl, rfl⟩
    · exact (leaves_ensure _ _ _).2 fun _ => ⟨rfl, rfl⟩

theorem scanStartItem_untouched (mode : Nat) (n : Option Nat) :
    (scanStartItem mode n o u).leaves (HoldUntouched u) := by
  unfold scanStartItem
  (repeat' split) <;> simp [startSingle, startPass]

theorem scanStopItem_untouched : (scanStopItem o u).leaves (HoldUntouched u) := by
  unfold scanStopItem
  split <;> exact ⟨rfl, rfl⟩

end Untouched

/-! ### Every command -/

theorem LineHoldFollows.next {t u : State} (e : (Host.Outcome.next u : Host.Outcome State Fault Refusal) = .next t)
    (h : LineHoldFollows u) : LineHoldFollows t := by
  cases e; exact h

/-- A command that is an event keeps line hold with its sources: POWER_ON brings none of them, and what comes in on the
floor line raises alarms and brings samples. -/
theorem exec_event_keepsHold {s t : State} {i : Instr} (event : areaOf i = none) (h : LineHoldFollows s)
    (hx : exec i s = .next t) : LineHoldFollows t := by
  have settled := h.settle
  cases i with
  | powerOn => exact .next hx ⟨rfl, rfl⟩
  | timeBaseSecond => exact .next hx settled
  | cutTimeout id =>
    refine .next hx ?_
    split
    · exact (h.timeOutId id).finish
    · exact h
  | channelEntersStale n =>
    refine .next hx ?_
    split
    · exact (LineHoldFollows.staleId (s := s.setWater { s.water with
        staleDue := s.water.staleDue.filter (· != n) }) h n).finish
    · exact h
  | scanPassDue =>
    refine .next hx ?_
    split
    · exact h.startDuePass.finish
    · exact h
  | readerPollDue _ =>
    refine .next hx ?_
    split
    · exact h.finish
    · exact h
  | startFailure _ _ | abortFailure _ | cutterUnreachable _ => exact .next hx (h.takeOneReport _)
  | officeFrameBegin => exact .next hx settled.frameBegins.finish
  | officeHeaderArrived _ => exact .next hx (settled.headerArrives _).finish
  | officeFrameArrived _ => exact .next hx (settled.frameArrives _).finish
  | officeLinkSilence => exact .next hx (LineHoldFollows.finish (s := s.settle.setReceiver .hunting) settled)
  | frameSent =>
    exact .next hx (LineHoldFollows.finish (s := s.settle.setOffice { s.settle.office with sending := none }) settled)
  | takeFrame => exact .next hx settled.takeFrame.finish
  | badItem => exact .next hx settled.refuseBadItem.finish
  | floorFrameBegin => exact .next hx settled.floorFrameBegins.finish
  | floorFrameSent => exact .next hx settled.floorFrameGone.finish
  | responseWindowExpired => exact .next hx settled.windowExpires.finish
  | floorLineSilence | badFloorFrame => exact .next hx settled.badFrame.finish
  | floorAck _ =>
    refine .next hx (settled.goodFrame (fun t u hu => hu.txAcked t) fun r u hu => ?_).finish
    split
    · exact hu.of_same (State.slotAcked_gate _ _) (State.slotAcked_alarms _ _)
    · exact hu.slotOther _ _
  | floorNak _ | noneAnswer _ =>
    exact .next hx (settled.goodFrame (fun t u hu => hu.txNothing t) fun r u hu => hu.slotOther r _).finish
  | completionAnswer _ _ _ _ _ _ _ _ _ _ =>
    exact .next hx (settled.goodFrame (fun t u hu => hu.answered t _ fun v hv => hv.passCompletion _ _)
      fun r u hu => hu.slotOther r _).finish
  | scanAnswer _ _ _ _ _ _ _ =>
    exact .next hx (settled.goodFrame (fun t u hu => hu.answered t _ fun v hv => hv.passScan _ _)
      fun r u hu => hu.slotOther r _).finish
  | valueAnswer _ _ _ _ =>
    exact .next hx (settled.goodFrame (fun t u hu => hu.answered t _ fun v hv => hv)
      fun r u hu => hu.slotOther r _).finish
  | _ => cases event

/-- A command that is an item keeps line hold with its sources: fifteen items reach the gate or the alarm unit, the others
leave both alone. -/
theorem exec_item_keepsHold {s t : State} {i : Instr} {area : Area} (item : areaOf i = some area)
    (h : LineHoldFollows s) (hx : exec i s = .next t) : LineHoldFollows t := by
  cases i with
  | useJob _ | useCutter _ | useSlab _ | contextClear =>
    exact .next hx (h.itemStep_of_untouched fun o u => by
      simp [useJobItem, useCutterItem, useSlabItem, contextClearItem, setContext])
  | price _ _ _ | reserve _ _ | release _ | remnantLimits _ _ =>
    exact .next hx (h.itemStep_of_untouched fun o u => by
      simp [priceItem, reserveItem, releaseItem, remnantLimitsItem, needSlab])
  | findRemnant l w lot => exact .next hx (h.itemStep_of_untouched fun o u => findRemnantItem_untouched o u l w lot)
  | discard _ =>
    refine .next hx (h.itemStep fun o u hu => ?_)
    simp [discardItem, needSlab, hu.discarded]
  | planLoad _ _ _ | planClear _ | skip _ _ | tolerance _ =>
    exact .next hx (h.itemStep_of_untouched fun o u => by
      simp [planLoadItem, planClearItem, skipItem, toleranceItem, needSlab, State.skipStep])
  | verdict _ _ _ =>
    refine .next hx (h.itemStep fun o u hu => ?_)
    simp [verdictItem, needSlab, hu.rule]
  | load _ _ _ | toolChange _ | clearFault _ =>
    exact .next hx (h.itemStep_of_untouched fun o u => by
      simp [loadItem, toolChangeItem, clearFaultItem, needCutter, State.loaded])
  | unload _ =>
    refine .next hx (h.itemStep fun o u hu => ?_)
    simp [unloadItem, needCutter, hu.unloaded]
  | cut _ _ _ _ =>
    refine .next hx (h.itemStep fun o u hu => ?_)
    simp [cutItem, cutChecks, hu.accept]
  | abort _ =>
    refine .next hx (h.itemStep fun o u hu => ?_)
    simp [abortItem, needCutter, hu.aborted]
  | scanStart mode n => exact .next hx (h.itemStep_of_untouched fun o u => scanStartItem_untouched o u mode n)
  | scanStop => exact .next hx (h.itemStep_of_untouched scanStopItem_untouched)
  | scanList _ => exact .next hx (h.itemStep_of_untouched fun o u => by simp [scanListItem])
  | channelLimits _ _ _ =>
    refine .next hx (h.itemStep fun o u hu => ?_)
    simp [channelLimitsItem, hu.recompare]
  | waterRoles _ _ _ _ =>
    refine .next hx (h.itemStep fun o u hu => ?_)
    simp [waterRolesItem, hu.setRoles]
  | waterMarks low critical resume limit turb =>
    refine .next hx (h.itemStep fun o u hu => ?_)
    have marked : LineHoldFollows (u.setGate { u.gate with marks := ⟨low, critical, resume, limit, turb⟩ }) := hu
    simp [waterMarksItem, marked.waterItem]
  | lineHold => exact .next hx (h.itemStep fun o u hu => hu.setOfficeHold true)
  | lineRelease => exact .next hx (h.itemStep fun o u hu => hu.setOfficeHold false)
  | jobQuote _ _ =>
    refine .next hx (h.itemStep fun o u hu => ?_)
    simp [jobQuoteItem, needJob, hu.requote]
  | jobOpen _ _ | jobClose _ | shopRates _ _ =>
    exact .next hx (h.itemStep_of_untouched fun o u => by simp [jobOpenItem, jobCloseItem, shopRatesItem, needJob])
  | station a k => exact .next hx (h.itemStep_of_untouched fun o u => stationItem_untouched o u a k)
  | cutter n a k _ _ _ _ _ _ _ _ _ => exact .next hx (h.itemStep_of_untouched fun o u => cutterItem_untouched o u n a k _)
  | floorRestart => exact .next hx (h.itemStep fun o u hu => hu.floorRestart)
  | channel _ _ _ _ _ _ =>
    refine .next hx (h.itemStep fun o u hu => ?_)
    simp [channelItem, hu.defineChannel]
  | alarmAction _ _ _ =>
    refine .next hx (h.itemStep fun o u hu => ?_)
    simp [alarmActionItem, hu.changeAlarms]
  | stationRemove _ | lineSettings _ _ _ _ _ | cutterRemove _ | channelRemove _ | origin _ _ _ | originRemove _
  | openLevel _ =>
    exact .next hx (h.itemStep_of_untouched fun o u => by
      simp [stationRemoveItem, lineSettingsItem, cutterRemoveItem, channelRemoveItem, originItem, originRemoveItem,
        openLevelItem, State.removeCutter, State.resettled])
  | readSlab _ | readPlan _ | readCutter _ | readChannel _ | readJob _ | readRoster | readWater | readAlarms =>
    exact .next hx (h.itemStep_of_untouched fun o u => by
      simp [readSlabItem, readPlanItem, readCutterItem, readChannelItem, readJobItem, readRosterItem, readWaterItem,
        readAlarmsItem, needSlab, needCutter, needJob])
  | takeAlarm => exact .next hx (h.itemStep fun o u hu => hu.takeAlarmItem o)
  | _ => cases item

theorem exec_keepsHold {s t : State} {i : Instr} (h : LineHoldFollows s) (hx : exec i s = .next t) :
    LineHoldFollows t := by
  cases area : areaOf i with
  | none => exact exec_event_keepsHold area h hx
  | some a => exact exec_item_keepsHold area h hx

/-- Settles O56: the command at the front keeps it, and an idle step changes nothing. -/
theorem lineHoldKept : Obligations.LineHoldKept := by
  intro s t h hs
  unfold step at hs
  split at hs
  next => exact .next hs h
  next c rest _ => exact exec_keepsHold (s := s.setPending rest) h hs

end Sys2Proof.Machine
end

section
/-! PROOFS. The floor line (spec/07). -/

namespace Sys2Proof.Machine

/-! ### The third failure (R133) -/

/-- A station that is lost stands UNREACHABLE with its three failures counted (R133). -/
theorem loseStation_station? (s : State) (st : Station) :
    (s.loseStation st).station? st.address = some { st with link := .unreachable, failures := 3 } := by
  unfold State.loseStation
  rw [station_of_same (raise_roster _ _ _), station_putStation, if_pos rfl]
  rfl

theorem loseStation_entries (s : State) (st : Station) :
    (s.loseStation st).alarms.entries = (s.alarms.raised .stationUnreachable st.address s.seconds).1 := by
  simp [State.loseStation]

@[simp] theorem loseStation_reports (s : State) (st : Station) : (s.loseStation st).line.reports = s.line.reports := by
  unfold State.loseStation
  rw [raise_reports]
  rfl

/-- Beyond losing it, a third failure reports the station's cutter alone (R133). -/
theorem stationLost_cases (s : State) (st : Station) :
    s.stationLost st = s.loseStation st ∨ ∃ r, s.stationLost st = (s.loseStation st).report r := by
  unfold State.stationLost
  dsimp only
  split
  · split
    · exact .inr ⟨_, rfl⟩
    · exact .inl rfl
  · exact .inl rfl

theorem stationLost_of_cutter {s : State} {st : Station} {c : Cutter} (hc : s.cutterAt st.address = some c)
    (hk : st.kind = .cutter) : s.stationLost st = (s.loseStation st).report (.unreachable c.number) := by
  have bound : (s.loseStation st).cutterAt st.address = some c := by
    rw [State.cutterAt, State.loseStation_cutting]; exact hc
  simp only [State.stationLost, bound, if_pos hk]

/-- With two failures or more behind it, a station that was still reached is lost (R133). -/
theorem failStation_of_third {s : State} {st : Station} (hs : s.station? st.address = some st) (two : 2 ≤ st.failures)
    (reached : st.link ≠ .unreachable) : s.failStation st.address = s.stationLost st := by
  have third : min Config.unreachableAfter (st.failures + 1) = Config.unreachableAfter :=
    Nat.min_eq_left (Nat.succ_le_succ two)
  simp only [State.failStation, hs, third, reached, ne_eq, not_false_eq_true, and_self, if_true]

/-- A failure that does not lose the station is counted, up to the third (R133). -/
theorem failStation_of_counted {s : State} {st : Station} (hs : s.station? st.address = some st)
    (kept : st.failures < 2 ∨ st.link = .unreachable) :
    s.failStation st.address = s.putStation { st with failures := min 3 (st.failures + 1) } := by
  have stays : ¬(min Config.unreachableAfter (st.failures + 1) = Config.unreachableAfter ∧ st.link ≠ .unreachable) := by
    rintro ⟨third, reached⟩
    have : Config.unreachableAfter ≤ st.failures + 1 :=
      Nat.le_trans (Nat.le_of_eq third.symm) (Nat.min_le_right _ _)
    rcases kept with few | lost
    · exact absurd this (Nat.not_le.2 (Nat.succ_lt_succ few))
    · exact reached lost
  simp only [State.failStation, hs, if_neg stays]
  rfl

/-- Settles O51: a station that is reached is lost with its alarm and report; one that is lost is counted alone. -/
theorem thirdFailureLosesTheStation : Obligations.ThirdFailureLosesTheStation := by
  intro s a st hs two
  obtain rfl := station_key hs
  refine ⟨fun reached => ?_, fun lost => ?_⟩
  · rw [failStation_of_third hs two reached]
    refine ⟨?_, ?_, fun c hc hk => ?_⟩
    · rcases stationLost_cases s st with e | ⟨r, e⟩ <;> rw [e] <;> exact loseStation_station? s st
    · rcases stationLost_cases s st with e | ⟨r, e⟩ <;> rw [e] <;> exact loseStation_entries s st
    · rw [stationLost_of_cutter hc hk, State.report, State.setLine_line, loseStation_reports]
  · have third : min 3 (st.failures + 1) = 3 := Nat.min_eq_left (Nat.succ_le_succ two)
    rw [failStation_of_counted hs (.inr lost), third]
    exact ⟨(station_putStation s _ _).trans (if_pos rfl), rfl, rfl⟩

/-! ### A poll that fails (R132, R133, R135) -/

/-- The end of a reader poll's transaction sets its next poll; of a cutter's nothing more comes (R135). -/
theorem readerPolled_of_some {s : State} {st : Station} (hs : s.station? st.address = some st) :
    s.readerPolled st.address = if st.kind = .reader then
      s.putStation { st with nextPoll := some (secondsAfter s.seconds s.line.active.readerInterval) } else s := by
  simp only [State.readerPolled, hs]

/-- A station with a failure more counted. -/
def Station.failedOnce (st : Station) : Station := { st with failures := st.failures + 1 }

/-- The state after a poll of a station below its third failure has failed, up to the arbiters' moves. -/
def State.pollFailed (s : State) (st : Station) : State :=
  if st.kind = .reader then
    (s.putStation st.failedOnce).freeLine.putStation
      { st.failedOnce with nextPoll := some (secondsAfter s.seconds s.line.active.readerInterval) }
  else (s.putStation st.failedOnce).freeLine

theorem txFailed_of_poll {s : State} {st : Station} (ph : TxPhase) (hs : s.station? st.address = some st)
    (few : st.failures < 2) :
    s.txFailed { kind := .poll, address := st.address, phase := ph } = s.pollFailed st := by
  have counted : s.failStation st.address = s.putStation st.failedOnce := by
    have below : min 3 (st.failures + 1) = st.failures + 1 := by omega
    rw [failStation_of_counted hs (.inl few), below]
    rfl
  have stands : (s.putStation st.failedOnce).freeLine.station? st.failedOnce.address = some st.failedOnce :=
    (station_putStation s st.failedOnce _).trans (if_pos rfl)
  simp only [State.txFailed, counted]
  exact readerPolled_of_some stands

/-- After the failed poll the station stands with the failure counted and its link as it was, and no alarm is raised. -/
theorem pollFailed_station {s : State} {st : Station} :
    ((s.pollFailed st).station? st.address).map Station.failures = some (st.failures + 1) ∧
      ((s.pollFailed st).station? st.address).map Station.link = some st.link ∧
      (s.pollFailed st).alarms.entries = s.alarms.entries := by
  have read : ∀ (u : State) (x : Station), x.address = st.address → x.failures = st.failures + 1 → x.link = st.link →
      ((u.putStation x).station? st.address).map Station.failures = some (st.failures + 1) ∧
        ((u.putStation x).station? st.address).map Station.link = some st.link := by
    intro u x address failures link
    rw [station_putStation, if_pos address, Option.map_some, Option.map_some, failures, link]
    exact ⟨rfl, rfl⟩
  unfold State.pollFailed
  split
  · obtain ⟨failures, link⟩ := read (s.putStation st.failedOnce).freeLine
      { st.failedOnce with nextPoll := some (secondsAfter s.seconds s.line.active.readerInterval) } rfl rfl rfl
    exact ⟨failures, link, rfl⟩
  · obtain ⟨failures, link⟩ := read s st.failedOnce rfl rfl rfl
    exact ⟨failures, link, rfl⟩

/-- A frame that comes in bad, or is cut off, inside the window ends the transaction as failed (R183). -/
theorem badFrame_of_window {s : State} {k : TxKind} {a : Nat} {e : Bool} (hr : s.line.receiving = some true)
    (hh : s.line.holder = .tx { kind := k, address := a, phase := .window e }) :
    s.badFrame = s.hunt.txFailed { kind := k, address := a, phase := .window e } := by
  have held : s.hunt.line.holder = .tx { kind := k, address := a, phase := .window e } := hh
  simp only [State.badFrame, hr, held]

/-- A window that runs out with no frame coming in ends the transaction as failed (R132). -/
theorem windowExpires_of_window {s : State} {k : TxKind} {a : Nat} (hr : s.line.receiving = none)
    (hh : s.line.holder = .tx { kind := k, address := a, phase := .window false }) :
    s.windowExpires = s.txFailed { kind := k, address := a, phase := .window false } := by
  simp [State.windowExpires, hh, hr]

/-- Settles O50: each of the three events ends the transaction as failed, with the port hunting behind a frame. -/
theorem silentStationCountsAFailure : Obligations.SilentStationCountsAFailure := by
  intro s a st hq hh hs few failed after
  obtain rfl := station_key hs
  have ends : ∀ u : State, u = s ∨ u = s.hunt → after u = (u.pollFailed st).finish ∧
      u.txFailed { kind := .poll, address := st.address, phase := .window false } = u.pollFailed st := by
    rintro u (rfl | rfl)
    · exact ⟨rfl, txFailed_of_poll _ hs few⟩
    · exact ⟨rfl, txFailed_of_poll _ hs few⟩
  obtain ⟨afterExpiry, expires⟩ := ends s (.inl rfl)
  obtain ⟨afterFrame, breaks⟩ := ends s.hunt (.inr rfl)
  have bad : s.line.receiving = some true → Host.Outcome.next s.settle.badFrame.finish =
      (.next (after s.hunt) : Host.Outcome State Fault Refusal) := fun hr => by
    rw [settle_of_quiet hq, badFrame_of_window hr hh, breaks, afterFrame]
  refine ⟨fun hr => ?_, bad, bad, fun u hu => ?_⟩
  · show Host.Outcome.next s.settle.windowExpires.finish = _
    rw [settle_of_quiet hq, windowExpires_of_window hr hh, expires, afterExpiry]
  · have same : u.alarms.entries = s.alarms.entries := by rcases hu with rfl | rfl <;> rfl
    obtain ⟨failures, link, entries⟩ := pollFailed_station (s := u) (st := st)
    rw [(ends u hu).1, station_of_same (finish_roster _), finish_entries, ← same]
    exact ⟨failures, link, entries⟩

/-! ### The roster's items (R130, R131) -/

theorem stationKindOf_code (k : StationKind) : stationKindOf k.code = some k := by cases k <;> rfl

/-- Another roster is no more than that. -/
theorem unchanged_setRoster (s : State) (r : List Station) :
    Unchanged [.roster, .floor, .reports] s (s.setLine { s.line with roster := r }) := by
  intro p hp
  cases p
  case settings => exact ⟨rfl, rfl, rfl, rfl⟩
  all_goals simp_all [Part.same]

/-- An item that writes the roster alone, taken: its answer is written and every other part is as it was. -/
theorem roster_replied (s : State) (r : List Station) (h : InHand) (rest : List RawItem) :
    Answered s (replied (s.setLine { s.line with roster := r }) h rest .ok []) h rest ⟨.ok, []⟩ ∧
      Unchanged [.roster, .floor, .reports] s (replied (s.setLine { s.line with roster := r }) h rest .ok []) :=
  ⟨answered_replied rfl, unchanged_replied (unchanged_setRoster s r) rfl (.inr (by decide))⟩

/-- A station put into the roster and the item answered: the other stations and every other part are as they were. -/
theorem putStation_replied (s : State) (x : Station) (h : InHand) (rest : List RawItem) :
    (replied (s.putStation x) h rest .ok []).station? x.address = some x ∧
      (∀ b, b ≠ x.address → (replied (s.putStation x) h rest .ok []).station? b = s.station? b) ∧
      Answered s (replied (s.putStation x) h rest .ok []) h rest ⟨.ok, []⟩ ∧
      Unchanged [.roster, .floor, .reports] s (replied (s.putStation x) h rest .ok []) :=
  ⟨by simp, fun b hb => by simp [hb.symm], roster_replied s _ h rest⟩

/-- STATION with its checks in the rule's order (R130): no more than four READERs, and nothing at work at the place of a
station of another kind. -/
theorem stationItem_of_kind {a : Nat} (range : addressRange a = true) (k : StationKind) (o : Origin) (s : State) :
    stationItem a k.code o s =
      ensure (k != .reader || s.stationIs a .reader || decide (s.readers < 4)) .full
        (match s.station? a with
          | none => .ok (s.putStation (Station.fresh a k s.seconds))
          | some st =>
            if st.kind = k then .ok s
            else ensure (!s.addressBusy a) .wrongState (.ok (s.putStation (Station.fresh a k s.seconds)))) := by
  rw [stationItem, stationKindOf_code, need_some, range, ensure_true]
  rfl

section Station

variable {s : State} {a : Nat} {k : StationKind} (o : Origin) (range : addressRange a = true)
include range

/-- A fifth READER is refused (R130). -/
theorem stationItem_of_full (reader : k = .reader) (full : 4 ≤ s.readers) (other : s.stationIs a .reader = false) :
    stationItem a k.code o s = .refused .full := by
  rw [stationItem_of_kind range, other, reader, decide_eq_false (Nat.not_lt.2 full)]
  rfl

theorem stationItem_of_empty (room : k ≠ .reader ∨ s.readers < 4) (place : s.station? a = none) :
    stationItem a k.code o s = .ok (s.putStation (Station.fresh a k s.seconds)) := by
  have passes : (k != .reader || s.stationIs a .reader || decide (s.readers < 4)) = true := by
    rcases room with room | room <;> simp [room]
  rw [stationItem_of_kind range, passes, ensure_true, place]

theorem stationItem_of_same {st : Station} (place : s.station? a = some st) :
    stationItem a st.kind.code o s = .ok s := by
  have passes : (st.kind != .reader || s.stationIs a .reader || decide (s.readers < 4)) = true := by
    cases hk : st.kind <;> simp [State.stationIs, place, hk]
  rw [stationItem_of_kind range, passes, ensure_true, place]
  exact if_pos rfl

theorem stationItem_of_other {st : Station} (room : k ≠ .reader ∨ s.readers < 4) (place : s.station? a = some st)
    (other : st.kind ≠ k) :
    stationItem a k.code o s =
      ensure (!s.addressBusy a) .wrongState (.ok (s.putStation (Station.fresh a k s.seconds))) := by
  have passes : (k != .reader || s.stationIs a .reader || decide (s.readers < 4)) = true := by
    rcases room with room | room <;> simp [room]
  rw [stationItem_of_kind range, passes, ensure_true, place]
  exact if_neg other

end Station

/-! ### LINE SETTINGS (R145) -/

/-- Another pending set, staleness limit and pass interval leave the stations and what goes on at the line. -/
theorem unchanged_resettled (s : State) (p : TxSettings) (x y : Nat) :
    Unchanged [.settings, .floor, .reports] s (s.resettled p x y) := by
  have written : Unchanged [.settings, .floor, .reports] s
      (s.setLine { s.line with pendingSet := p, staleness := x, passInterval := y }) := by
    intro q hq
    cases q <;> simp_all [Part.same]
  exact written.trans ((startDuePass_frame _).unchanged.mono (by decide)) (by decide)

theorem lineSettings_replied (s : State) (p : TxSettings) (x y : Nat) (h : InHand) (rest : List RawItem) :
    (replied (s.resettled p x y) h rest .ok []).line.pendingSet = p ∧
      (replied (s.resettled p x y) h rest .ok []).line.staleness = x ∧
      (replied (s.resettled p x y) h rest .ok []).line.passInterval = y ∧
      (replied (s.resettled p x y) h rest .ok []).line.active = s.line.active ∧
      Answered s (replied (s.resettled p x y) h rest .ok []) h rest ⟨.ok, []⟩ ∧
      Unchanged [.settings, .floor, .reports] s (replied (s.resettled p x y) h rest .ok []) := by
  have frame := startDuePass_frame (s.setLine { s.line with pendingSet := p, staleness := x, passInterval := y })
  refine ⟨?_, ?_, ?_, ?_, answered_replied (by simp [State.resettled]),
    unchanged_replied (unchanged_resettled s p x y) (by simp [State.resettled]) (.inr (by decide))⟩
  · exact (replied_pendingSet ..).trans frame.pendingSet
  · exact (replied_staleness ..).trans frame.staleness
  · exact (replied_passInterval ..).trans frame.passInterval
  · exact (replied_active ..).trans frame.active

/-- Settles O45: each situation of an item is one answer of its owner, which writes the roster, the settings or nothing. -/
theorem stationItemsRewriteTheRoster : Obligations.StationItemsRewriteTheRoster := by
  intro s h rest o a range
  refine ⟨?empty, ?same, ?other, ?removed, ?settings⟩
  case empty =>
    intro k hr place
    refine ⟨s.itemStep (.station a k.code) .table (stationItem a k.code), rfl, fun room => ?_, fun reader full => ?_⟩
    · rw [itemStep_taken hr (stationItem_of_empty o range room place)]
      exact putStation_replied s (Station.fresh a k s.seconds) h rest
    · exact itemStep_refuses hr (stationItem_of_full o range reader full (by simp [State.stationIs, place]))
  case same =>
    intro st hr place
    exact ⟨_, exec_of_taken (owner := stationItem a st.kind.code) rfl hr (stationItem_of_same o range place),
      answered_replied rfl, unchanged_replied (.rfl' s) rfl (.inl List.not_mem_nil)⟩
  case other =>
    intro st k hr place other
    refine ⟨s.itemStep (.station a k.code) .table (stationItem a k.code), rfl, fun reader full => ?_, fun room => ?_⟩
    · exact itemStep_refuses hr
        (stationItem_of_full o range reader full (by simp [State.stationIs, place, ← reader, other]))
    · have checked := stationItem_of_other o range room place other
      refine ⟨fun busy => ?_, fun idle => ?_⟩
      · exact itemStep_refuses hr (by rw [checked, busy]; rfl)
      · rw [itemStep_taken hr (by rw [checked, idle]; rfl)]
        exact putStation_replied s (Station.fresh a k s.seconds) h rest
  case removed =>
    intro hr defined idle
    have owned : stationRemoveItem a o s =
        .ok (s.setLine { s.line with roster := remove Station.address a s.line.roster }) := by
      rw [stationRemoveItem, range, defined, idle]
      rfl
    refine ⟨_, exec_of_taken (owner := stationRemoveItem a) rfl hr owned, ?_, fun b hb => ?_,
      roster_replied s _ h rest⟩
    · exact (replied_station? ..).trans (lookup_remove_self Station.address a _)
    · exact (replied_station? ..).trans (lookup_remove_other Station.address _ hb.symm)
  case settings =>
    intro w r i st p hr w5 w200 r3 i1 i10 st2 st120 p1 p60
    have owned : lineSettingsItem w r i st p o s = .ok (s.resettled ⟨w, r, i⟩ st p) := by
      simp [lineSettingsItem, within, w5, w200, r3, i1, i10, st2, st120, p1, p60]
    exact ⟨_, exec_of_taken (owner := lineSettingsItem w r i st p) rfl hr owned, lineSettings_replied s _ st p h rest⟩

/-! ### Work that is wound up (R57, R72, R125) -/

/-- What the end of records and the walk of the waiting list do to a cutter, in the state `t` they leave: FAULTED and a
cleared hold mark stay, and a slot is emptied only of a record that has ended. -/
structure Cutter.WoundUp (t : State) (c d : Cutter) : Prop where
  faulted : c.state = .faulted → d.state = .faulted
  holdMark : c.holdMark = false → d.holdMark = false
  slots : ∀ k ∈ d.slots, k ∈ c.slots
  kept : ∀ k ∈ c.slots, k ∈ d.slots ∨ t.record? k = none

theorem Cutter.WoundUp.rfl' (t : State) (c : Cutter) : Cutter.WoundUp t c c := ⟨id, id, fun _ => id, fun _ => .inl⟩

theorem Cutter.WoundUp.trans {t u : State} {c d e : Cutter} (h : Cutter.WoundUp t c d) (k : Cutter.WoundUp u d e)
    (gone : ∀ i, t.record? i = none → u.record? i = none) : Cutter.WoundUp u c e :=
  ⟨k.faulted ∘ h.faulted, k.holdMark ∘ h.holdMark, fun i hi => h.slots i (k.slots i hi),
    fun i hi => (h.kept i hi).elim (k.kept i) fun ended => .inr (gone i ended)⟩

/-- What the end of records and the walk of the waiting list leave of a state: no record is new, the cutters are wound up,
the waiting list only shrinks, and the command queue gains no more than STARTs of records that waited. -/
structure WoundUp (s t : State) : Prop where
  parts : Unchanged [.plans, .cutting, .gate, .floor, .reports] s t
  office : t.office = s.office
  lineHold : t.gate.lineHold = s.gate.lineHold
  waiting : ∀ i ∈ t.gate.waiting, i ∈ s.gate.waiting
  line : ∃ q, t.line = { s.line with queue := q } ∧
    ∀ c ∈ q, (∃ d ∈ s.line.queue, c.kind = d.kind) ∨ ∃ i ∈ s.gate.waiting, c.kind = .start i
  gone : ∀ i, s.record? i = none → t.record? i = none
  cutters : ∀ n, ∃ f : Cutter → Cutter, t.cutter? n = (s.cutter? n).map f ∧ ∀ c, Cutter.WoundUp t c (f c)

theorem WoundUp.trans {s t u : State} (h : WoundUp s t) (k : WoundUp t u) : WoundUp s u where
  parts := h.parts.trans k.parts (by decide)
  office := k.office.trans h.office
  lineHold := k.lineHold.trans h.lineHold
  waiting i hi := h.waiting i (k.waiting i hi)
  line := by
    obtain ⟨q, before, started⟩ := h.line
    obtain ⟨q', after, started'⟩ := k.line
    refine ⟨q', by rw [after, before], fun c hc => ?_⟩
    rcases started' c hc with ⟨d, hd, kind⟩ | ⟨i, hi, kind⟩
    · rw [kind]
      exact started d (by rw [before] at hd; exact hd)
    · exact .inr ⟨i, h.waiting i hi, kind⟩
  gone i hi := k.gone i (h.gone i hi)
  cutters n := by
    obtain ⟨f, before, wound⟩ := h.cutters n
    obtain ⟨g, after, wound'⟩ := k.cutters n
    exact ⟨g ∘ f, by rw [after, before, Option.map_map], fun c => (wound c).trans (wound' (f c)) k.gone⟩

/-- Where the pool, the gate, the line and the office port are as they were, nothing was wound up. -/
theorem WoundUp.of_same {s t : State} (parts : Unchanged [.plans, .cutting, .gate, .floor, .reports] s t)
    (office : t.office = s.office) (gate : t.gate = s.gate) (line : t.line = s.line) (cutting : t.cutting = s.cutting) :
    WoundUp s t where
  parts := parts
  office := office
  lineHold := by rw [gate]
  waiting i := by rw [gate]; exact id
  line := ⟨s.line.queue, line, fun c hc => .inl ⟨c, hc, rfl⟩⟩
  gone i := by rw [record_of_same cutting]; exact id
  cutters n := ⟨id, by rw [cutter_of_same cutting, Option.map_id_fun, id], .rfl' t⟩

theorem WoundUp.rfl' (s : State) : WoundUp s s := .of_same (.rfl' s) rfl rfl rfl rfl

/-- A fold of operations that each wind work up winds work up. -/
theorem WoundUp.foldl {α : Type} {f : State → α → State} (h : ∀ s a, WoundUp s (f s a)) (l : List α) (s : State) :
    WoundUp s (l.foldl f s) :=
  List.foldlRecOn l f (.rfl' s) fun _ wound a _ => wound.trans (h _ a)

/-- What stays in the queue after a withdrawal stood there under the same kind (R57, R136). -/
theorem withdraw_line (s : State) (n id : Nat) :
    ∃ q, (s.withdraw n id).line = { s.line with queue := q } ∧ ∀ c ∈ q, ∃ d ∈ s.line.queue, c.kind = d.kind := by
  refine ⟨_, rfl, fun c hc => ?_⟩
  obtain ⟨d, hd, rfl⟩ := List.mem_map.1 hc
  exact ⟨d, (List.mem_filter.1 hd).1, orphaned_kind n id d⟩

theorem finishRecord_line (s : State) (r : CutRecord) (u : Option Ending) (p : CutReport) :
    ∃ q, (s.finishRecord r u p).line = { s.line with queue := q } ∧ ∀ c ∈ q, ∃ d ∈ s.line.queue, c.kind = d.kind := by
  unfold State.finishRecord
  dsimp only
  generalize hw : State.setCutting _ _ = w
  have line : w.line = s.line := by rw [← hw]; (repeat' split) <;> simp
  rw [← line]
  obtain ⟨q, withdrawn, kinds⟩ := withdraw_line w r.onCutter r.id
  refine ⟨q, ?_, kinds⟩
  split <;> simp [withdrawn]

theorem finishRecord_gate (s : State) (r : CutRecord) (u : Option Ending) (p : CutReport) :
    (s.finishRecord r u p).gate = { s.gate with waiting := s.gate.waiting.filter (· != r.id) } := by
  unfold State.finishRecord
  dsimp only
  (repeat' split) <;> simp

@[simp] theorem finishRecord_actions (s : State) (r : CutRecord) (u : Option Ending) (p : CutReport) :
    (s.finishRecord r u p).alarms.actions = s.alarms.actions := by
  unfold State.finishRecord
  dsimp only
  (repeat' split) <;> simp

theorem settled_slots (c : Cutter) : c.settled.slots = c.slots := by unfold Cutter.settled; split <;> rfl
theorem settled_holdMark (c : Cutter) : c.settled.holdMark = c.holdMark := by unfold Cutter.settled; split <;> rfl
/-- Only a WORKING cutter settles (R57 step 6). -/
theorem settled_of_faulted {c : Cutter} (h : c.state = .faulted) : c.settled.state = .faulted := by
  simp [Cutter.settled, h]

/-- A record's end winds work up (R57). -/
theorem finishRecord_woundUp (s : State) (r : CutRecord) (u : Option Ending) (p : CutReport) :
    WoundUp s (s.finishRecord r u p) := by
  obtain ⟨q, line, kinds⟩ := finishRecord_line s r u p
  have gate := finishRecord_gate s r u p
  have records : ∀ i, (s.finishRecord r u p).record? i = if r.id = i then none else s.record? i := fun i => by
    rw [State.record?, finishRecord_records, lookup_remove]
    rfl
  refine ⟨?parts, State.finishRecord_office .., by rw [gate], ?waiting, ⟨q, line, fun c hc => .inl (kinds c hc)⟩, ?gone,
    ?cutters⟩
  case parts =>
    have entries := (finishRecord_walked s r u p).entries
    intro x hx
    cases x <;> simp_all [Part.same]
  case waiting =>
    intro i hi
    rw [gate] at hi
    exact (List.mem_filter.1 hi).1
  case gone =>
    intro i hi
    rw [records, hi, ite_self]
  case cutters =>
    intro n
    by_cases own : r.onCutter = n
    · refine ⟨_, (finishRecord_cutter s r u p n).trans (if_pos own), fun c => ?_⟩
      refine ⟨fun h => settled_of_faulted h, fun h => (settled_holdMark _).trans h, fun k hk => ?_, fun k hk => ?_⟩
      · rw [settled_slots] at hk
        exact (List.mem_filter.1 hk).1
      · rw [settled_slots, records]
        by_cases ended : r.id = k
        · exact .inr (if_pos ended)
        · exact .inl (List.mem_filter.2 ⟨hk, by simpa using Ne.symm ended⟩)
    · refine ⟨id, ?_, .rfl' _⟩
      rw [finishRecord_cutter, if_neg own, Option.map_id_fun, id]

theorem endRecord_woundUp (s : State) (r : CutRecord) (e : Ending) (b : Bool) : WoundUp s (s.endRecord r e b) := by
  refine WoundUp.trans ?_ (finishRecord_woundUp _ _ _ _)
  split
  · exact .of_same (by intro x hx; cases x <;> simp_all [Part.same]) (by simp) (by simp) (by simp) (by simp)
  · exact .of_same (by intro x hx; cases x <;> simp_all [Part.same]) (by simp) (by simp) (by simp) (by simp)

theorem endAll_woundUp (s : State) (ids : List Nat) (e : Ending) : WoundUp s (s.endAll ids e) :=
  WoundUp.foldl (fun u i => by
    split
    · exact .rfl' u
    · exact endRecord_woundUp _ _ _ _) ids s

/-- A cutter rewritten winds work up where it keeps its slots, FAULTED and a cleared hold mark. -/
theorem changeCutter_woundUp (s : State) (n : Nat) (f : Cutter → Cutter) (number : ∀ c, (f c).number = c.number)
    (slots : ∀ c, (f c).slots = c.slots) (faulted : ∀ c, c.state = .faulted → (f c).state = .faulted)
    (holdMark : ∀ c, c.holdMark = false → (f c).holdMark = false) : WoundUp s (s.changeCutter n f) where
  parts := by intro x hx; cases x <;> simp_all [Part.same]
  office := by simp
  lineHold := by simp
  waiting i := by simp
  line := ⟨s.line.queue, by simp, fun c hc => .inl ⟨c, hc, rfl⟩⟩
  gone i hi := by rw [State.record?, changeCutter_records]; exact hi
  cutters m := by
    by_cases own : n = m
    · exact ⟨f, by rw [changeCutter_cutter _ _ _ _ number, if_pos own], fun c =>
        ⟨faulted c, holdMark c, by rw [slots]; exact fun _ => id, by rw [slots]; exact fun _ => .inl⟩⟩
    · exact ⟨id, by rw [changeCutter_cutter _ _ _ _ number, if_neg own, Option.map_id_fun, id], .rfl' _⟩

theorem startFailed_woundUp (s : State) (n id : Nat) : WoundUp s (s.startFailed n id).1 := by
  unfold State.startFailed
  split
  · split
    · exact endRecord_woundUp _ _ _ _
    · exact .rfl' s
  · exact .rfl' s

/-- The head of the waiting list forwarded: its START joins the queue, or the queue is full and the record ends (R61,
R136). -/
theorem forward_woundUp {s : State} {n : Nat} {rest : List Nat} {r : CutRecord} (head : s.gate.waiting = n :: rest)
    (hr : s.record? n = some r) : WoundUp s ((s.setGate { s.gate with waiting := rest }).forward r) := by
  have sent : ∀ q, (∀ c ∈ q, (∃ d ∈ s.line.queue, c.kind = d.kind) ∨ ∃ i ∈ s.gate.waiting, c.kind = .start i) →
      WoundUp s ((((s.setGate { s.gate with waiting := rest }).putRecord { r with state := .sent })).setLine
        { s.line with queue := q }) := fun q started =>
    { parts := by intro x hx; cases x <;> simp_all [Part.same]
      office := rfl
      lineHold := rfl
      waiting := fun i hi => by rw [head]; exact List.mem_cons_of_mem _ hi
      line := ⟨q, rfl, started⟩
      gone := fun i hi => by
        have other : r.id ≠ i := fun e => by rw [record_key hr] at e; rw [← e, hr] at hi; cases hi
        exact (record_putRecord (s.setGate _) _ i).trans ((if_neg other).trans hi)
      cutters := fun _ => ⟨id, by rw [Option.map_id_fun]; rfl, .rfl' _⟩ }
  have stood : ∀ c ∈ s.line.queue,
      (∃ d ∈ s.line.queue, c.kind = d.kind) ∨ ∃ i ∈ s.gate.waiting, c.kind = .start i := fun c hc => .inl ⟨c, hc, rfl⟩
  unfold State.forward State.enqueue
  by_cases room : s.line.queue.length < Config.maxCommands
  · simp only [State.putRecord_line, State.setGate_line, if_pos room]
    refine sent _ fun c hc => ?_
    rcases List.mem_append.1 hc with hc | hc
    · exact stood c hc
    · rw [List.mem_singleton.1 hc]
      exact .inr ⟨r.id, by rw [head, record_key hr]; exact List.mem_cons_self, rfl⟩
  · simp only [State.putRecord_line, State.setGate_line, if_neg room]
    exact (sent s.line.queue stood).trans (startFailed_woundUp _ _ _)

theorem walk_woundUp (n : Nat) (s : State) : WoundUp s (s.walk n) := by
  induction n generalizing s with
  | zero => exact .rfl' s
  | succ n ih =>
    unfold State.walk
    split
    · exact .rfl' s
    next id rest head =>
      split
      · exact .rfl' s
      next r hr =>
        split
        · exact (forward_woundUp head hr).trans (ih _)
        · exact .rfl' s

theorem reevaluateIf_woundUp (s : State) (b : Bool) : WoundUp s (s.reevaluateIf b) := by
  unfold State.reevaluateIf
  split
  · exact walk_woundUp _ s
  · exact .rfl' s

/-! ### What winding up keeps of a cutter -/

section Wound

variable {s t : State} (h : WoundUp s t) {n : Nat}
include h

theorem WoundUp.faulted (was : (s.cutter? n).map Cutter.state = some .faulted) :
    (t.cutter? n).map Cutter.state = some .faulted := by
  obtain ⟨f, cutter, wound⟩ := h.cutters n
  obtain ⟨c, hc, state⟩ := Option.map_eq_some_iff.1 was
  rw [cutter, hc, Option.map_some, Option.map_some, (wound c).faulted state]

theorem WoundUp.holdMark (was : (s.cutter? n).map Cutter.holdMark = some false) :
    (t.cutter? n).map Cutter.holdMark = some false := by
  obtain ⟨f, cutter, wound⟩ := h.cutters n
  obtain ⟨c, hc, mark⟩ := Option.map_eq_some_iff.1 was
  rw [cutter, hc, Option.map_some, Option.map_some, (wound c).holdMark mark]

theorem WoundUp.defined : (t.cutter? n).isSome = (s.cutter? n).isSome := by
  obtain ⟨f, cutter, -⟩ := h.cutters n
  rw [cutter, Option.isSome_map]

theorem WoundUp.slots {i : Nat} (hi : i ∈ t.slotsOf n) : i ∈ s.slotsOf n := by
  obtain ⟨f, cutter, wound⟩ := h.cutters n
  unfold State.slotsOf at hi ⊢
  rw [cutter] at hi
  cases hc : s.cutter? n with
  | none => simp [hc] at hi
  | some c => exact (wound c).slots i (by simpa [hc] using hi)

/-- A slot is emptied only of a record that has ended. -/
theorem WoundUp.kept {i : Nat} (hi : i ∈ s.slotsOf n) : i ∈ t.slotsOf n ∨ t.record? i = none := by
  obtain ⟨f, cutter, wound⟩ := h.cutters n
  unfold State.slotsOf at hi ⊢
  rw [cutter]
  cases hc : s.cutter? n with
  | none => simp [hc] at hi
  | some c => exact (wound c).kept i (by simpa [hc] using hi)

end Wound

/-! ### One cutter restarted (R72) -/

/-- The records named have ended, and no others (R57). -/
theorem endAll_record (s : State) (ids : List Nat) (e : Ending) (k : Nat) :
    (s.endAll ids e).record? k = if k ∈ ids then none else s.record? k := by
  induction ids generalizing s with
  | nil => simp [State.endAll]
  | cons i ids ih =>
    have head : (s.endAll [i] e).record? k = if i = k then none else s.record? k := by
      cases hi : s.record? i with
      | none =>
        by_cases own : i = k
        · simp [State.endAll, hi, ← own]
        · simp [State.endAll, hi, own]
      | some r => simp [State.endAll, State.endUncertainly, hi, record_key hi]
    show ((s.endAll [i] e).endAll ids e).record? k = _
    rw [ih, head]
    by_cases own : i = k
    · simp [own]
    · simp [own, Ne.symm own]

/-- The cut ids in a cutter's slots whose records are in SENT or later. -/
def State.sentOf (s : State) (n : Nat) : List Nat :=
  (s.slotsOf n).filter fun id => (s.record? id).any fun r => r.state.sentOrLater

/-- The hold mark of a cutter cleared (R72). -/
def State.holdCleared (s : State) (n : Nat) : State := s.changeCutter n fun c => { c with holdMark := false }

theorem holdCleared_woundUp (s : State) (n : Nat) : WoundUp s (s.holdCleared n) :=
  changeCutter_woundUp s n _ (fun _ => rfl) (fun _ => rfl) (fun _ => id) fun _ _ => rfl

theorem faultCutter_woundUp (s : State) (n : Nat) : WoundUp s (s.faultCutter n) :=
  changeCutter_woundUp s n _ (fun _ => rfl) (fun _ => rfl) (fun _ _ => rfl) fun _ => id

theorem faultSweep_woundUp (s : State) (n : Nat) : WoundUp s (s.faultSweep n) := endAll_woundUp s _ _

/-- A cutter with nothing in SENT or later only has its hold mark cleared (R72). -/
theorem restartCutter_of_idle {s : State} {n : Nat} (h : s.sentOf n = []) : s.restartCutter n = s.holdCleared n := by
  show (if (s.sentOf n).isEmpty = true then s.endAll (s.sentOf n) (.failed .restart)
    else ((s.endAll (s.sentOf n) (.failed .restart)).faultCutter n).faultSweep n).holdCleared n = _
  rw [h]
  rfl

/-- A cutter with a record in SENT or later has those records ended, goes FAULTED and is swept (R72). -/
theorem restartCutter_of_sent {s : State} {n : Nat} (h : s.sentOf n ≠ []) :
    s.restartCutter n =
      (((s.endAll (s.sentOf n) (.failed .restart)).faultCutter n).faultSweep n).holdCleared n := by
  show (if (s.sentOf n).isEmpty = true then s.endAll (s.sentOf n) (.failed .restart)
    else ((s.endAll (s.sentOf n) (.failed .restart)).faultCutter n).faultSweep n).holdCleared n = _
  rw [if_neg (by rw [List.isEmpty_iff]; exact h)]

theorem restartCutter_woundUp (s : State) (n : Nat) : WoundUp s (s.restartCutter n) := by
  by_cases h : s.sentOf n = []
  · rw [restartCutter_of_idle h]
    exact holdCleared_woundUp s n
  · rw [restartCutter_of_sent h]
    exact (((endAll_woundUp s _ _).trans (faultCutter_woundUp _ n)).trans (faultSweep_woundUp _ n)).trans
      (holdCleared_woundUp _ n)

@[simp] theorem holdCleared_record? (s : State) (n k : Nat) : (s.holdCleared n).record? k = s.record? k := by
  rw [State.record?, State.holdCleared, changeCutter_records]
  rfl

@[simp] theorem faultCutter_record? (s : State) (n k : Nat) : (s.faultCutter n).record? k = s.record? k := by
  rw [State.record?, faultCutter_records]
  rfl

/-- A record outside the cutter's slots is not touched by its restart. -/
theorem restartCutter_record_other {s : State} {n k : Nat} (h : k ∉ s.slotsOf n) :
    (s.restartCutter n).record? k = s.record? k := by
  by_cases idle : s.sentOf n = []
  · rw [restartCutter_of_idle idle, holdCleared_record?]
  · have ended := (endAll_woundUp s (s.sentOf n) (.failed .restart)).trans (faultCutter_woundUp _ n)
    have unsent : k ∉ s.sentOf n := fun hk => h ((List.mem_filter.1 hk).1)
    rw [restartCutter_of_sent idle, holdCleared_record?, State.faultSweep, endAll_record,
      if_neg fun hk => h (ended.slots hk), faultCutter_record?, endAll_record, if_neg unsent]

theorem restartCutter_holdMark {s : State} {n : Nat} (defined : (s.cutter? n).isSome = true) :
    ((s.restartCutter n).cutter? n).map Cutter.holdMark = some false := by
  have cleared : ∀ u : State, (u.cutter? n).isSome = true →
      ((u.holdCleared n).cutter? n).map Cutter.holdMark = some false := fun u hu => by
    obtain ⟨c, hc⟩ := Option.isSome_iff_exists.1 hu
    have cutter := changeCutter_cutter u n n (fun c => { c with holdMark := false }) fun _ => rfl
    rw [State.holdCleared, cutter, if_pos rfl, hc]
    rfl
  by_cases idle : s.sentOf n = []
  · rw [restartCutter_of_idle idle]
    exact cleared s defined
  · rw [restartCutter_of_sent idle]
    refine cleared _ ?_
    rw [(faultSweep_woundUp _ n).defined, (faultCutter_woundUp _ n).defined, (endAll_woundUp s _ _).defined]
    exact defined

/-- A cutter that has a record in SENT or later is FAULTED by its restart, and no record of its slots stands (R70, R72). -/
theorem restartCutter_faults {s : State} {n id : Nat} {r : CutRecord} (slot : id ∈ s.slotsOf n)
    (hr : s.record? id = some r) (sent : r.state.sentOrLater = true) :
    ((s.restartCutter n).cutter? n).map Cutter.state = some .faulted ∧
      ∀ k ∈ s.slotsOf n, (s.restartCutter n).record? k = none := by
  have among : id ∈ s.sentOf n := List.mem_filter.2 ⟨slot, by simp [hr, sent]⟩
  rw [restartCutter_of_sent (List.ne_nil_of_mem among)]
  generalize s.sentOf n = ids
  have ended := endAll_woundUp s ids (.failed .restart)
  have defined : (s.cutter? n).isSome = true := by
    cases hc : s.cutter? n with
    | none => simp [State.slotsOf, hc] at slot
    | some c => rfl
  constructor
  · refine (holdCleared_woundUp _ n).faulted ((faultSweep_woundUp _ n).faulted ?_)
    obtain ⟨c, hc⟩ := Option.isSome_iff_exists.1 (ended.defined.trans defined)
    rw [faultCutter_cutter, if_pos rfl, hc]
    rfl
  · intro k hk
    rw [holdCleared_record?, State.faultSweep, endAll_record]
    rcases (ended.trans (faultCutter_woundUp _ n)).kept hk with stands | gone
    · exact if_pos stands
    · rw [gone, ite_self]

/-! ### Every cutter restarted -/

theorem restartCutters_woundUp (l : List Nat) (s : State) : WoundUp s (l.foldl State.restartCutter s) :=
  WoundUp.foldl restartCutter_woundUp l s

theorem restartCutters_holdMark {l : List Nat} {n : Nat} (hn : n ∈ l) {s : State}
    (defined : (s.cutter? n).isSome = true) :
    ((l.foldl State.restartCutter s).cutter? n).map Cutter.holdMark = some false := by
  induction l generalizing s with
  | nil => cases hn
  | cons m l ih =>
    rw [List.foldl_cons]
    rcases List.mem_cons.1 hn with rfl | later
    · exact (restartCutters_woundUp l _).holdMark (restartCutter_holdMark defined)
    · exact ih later ((restartCutter_woundUp s m).defined.trans defined)

/-- A record in SENT or later stands until its own cutter's turn, when the cutter is FAULTED; what has ended by then or
ends in the turn stays ended (R72). -/
theorem restartCutters_faults {l : List Nat} {n id : Nat} {r : CutRecord} (hn : n ∈ l) {s : State}
    (slot : id ∈ s.slotsOf n) (hr : s.record? id = some r) (sent : r.state.sentOrLater = true)
    (only : ∀ m, id ∈ s.slotsOf m → m = n) :
    ((l.foldl State.restartCutter s).cutter? n).map Cutter.state = some .faulted ∧
      ∀ k ∈ s.slotsOf n, (l.foldl State.restartCutter s).record? k = none := by
  induction l generalizing s with
  | nil => cases hn
  | cons m l ih =>
    have rest := restartCutters_woundUp l (s.restartCutter m)
    rw [List.foldl_cons]
    by_cases turn : m = n
    · subst turn
      obtain ⟨faulted, ended⟩ := restartCutter_faults slot hr sent
      exact ⟨rest.faulted faulted, fun k hk => rest.gone k (ended k hk)⟩
    · have wound := restartCutter_woundUp s m
      have stands : (s.restartCutter m).record? id = some r := by
        rw [restartCutter_record_other fun h => turn (only m h)]
        exact hr
      have slot' : id ∈ (s.restartCutter m).slotsOf n :=
        (wound.kept slot).resolve_right (by rw [stands]; exact Option.some_ne_none r)
      have later : n ∈ l := (List.mem_cons.1 hn).resolve_left (Ne.symm turn)
      obtain ⟨faulted, ended⟩ := ih later slot' stands fun k hk => only k (wound.slots hk)
      exact ⟨faulted, fun k hk => (wound.kept hk).elim (ended k) (rest.gone k)⟩

@[simp] theorem restartCutter_water (s : State) (n : Nat) : (s.restartCutter n).water = s.water := by
  unfold State.restartCutter; dsimp only; split <;> simp

theorem restartCutters_water (l : List Nat) (s : State) : (l.foldl State.restartCutter s).water = s.water :=
  List.foldlRecOn (motive := fun u : State => u.water = s.water) l _ rfl fun _ hu n _ => (restartCutter_water _ n).trans hu

/-! ### Step 4 of the restart (R72, R110) -/

/-- The scan engine after a restart: IDLE, with no poll in flight (R110). -/
def Engine.halted (e : Engine) : Engine := { e.stopped with inFlight := none }

theorem setEngine_woundUp (s : State) (e : Engine) : WoundUp s (s.setEngine e) :=
  .of_same (by intro x hx; cases x <;> simp_all [Part.same, State.setEngine]) (by simp) (by simp) (by simp) (by simp)

/-- After the cutters, work is wound up in the engine's halt and the walk alone. -/
theorem restartWork_after_cutters (s : State) :
    WoundUp ((s.cutting.cutters.map Cutter.number).foldl State.restartCutter s) s.restartWork :=
  (setEngine_woundUp _ _).trans (reevaluateIf_woundUp _ _)

theorem restartWork_woundUp (s : State) : WoundUp s s.restartWork :=
  (restartCutters_woundUp _ s).trans (restartWork_after_cutters s)

theorem restartWork_engine (s : State) : s.restartWork.water.engine = s.water.engine.halted := by
  show (State.reevaluateIf _ _).water.engine = _
  rw [State.reevaluateIf_water, restartCutters_water]
  rfl

theorem number_mem_of_defined {s : State} {n : Nat} {c : Cutter} (hc : s.cutter? n = some c) :
    n ∈ s.cutting.cutters.map Cutter.number :=
  List.mem_map.2 ⟨c, lookup_mem Cutter.number hc, cutter_key hc⟩

theorem restartWork_holdMark {s : State} {n : Nat} {c : Cutter} (hc : s.cutter? n = some c) :
    (s.restartWork.cutter? n).map Cutter.holdMark = some false :=
  (restartWork_after_cutters s).holdMark (restartCutters_holdMark (number_mem_of_defined hc) (by rw [hc]; rfl))

theorem slotsOf_of_some {s : State} {n : Nat} {c : Cutter} (hc : s.cutter? n = some c) : s.slotsOf n = c.slots := by
  rw [State.slotsOf, hc]
  rfl

theorem restartWork_faults {s : State} {n id : Nat} {c : Cutter} {r : CutRecord} (hc : s.cutter? n = some c)
    (slot : id ∈ c.slots) (hr : s.record? id = some r) (sent : r.state.sentOrLater = true)
    (only : ∀ m d, s.cutter? m = some d → id ∈ d.slots → m = n) :
    (s.restartWork.cutter? n).map Cutter.state = some .faulted ∧ ∀ k ∈ c.slots, s.restartWork.record? k = none := by
  have after := restartWork_after_cutters s
  have only' : ∀ m, id ∈ s.slotsOf m → m = n := fun m hm => by
    cases hd : s.cutter? m with
    | none => simp [State.slotsOf, hd] at hm
    | some d => exact only m d hd (by rw [← slotsOf_of_some hd]; exact hm)
  rw [← slotsOf_of_some hc] at slot ⊢
  obtain ⟨faulted, ended⟩ := restartCutters_faults (number_mem_of_defined hc) slot hr sent only'
  exact ⟨after.faulted faulted, fun k hk => after.gone k (ended k hk)⟩

/-! ### The arbiter with no broadcast and an idle engine (R134) -/

/-- What the arbiter of the floor line does where no broadcast stands and the scan engine is idle: the engine is as it was,
no broadcast comes about, and the queue holds no command of a new kind. -/
structure HandedOut (s t : State) : Prop where
  broadcast : t.line.broadcast = none
  pendingBroadcast : t.line.pendingBroadcast = s.line.pendingBroadcast
  water : t.water = s.water
  queue : ∀ c ∈ t.line.queue, ∃ d ∈ s.line.queue, c.kind = d.kind

theorem HandedOut.rfl' {s : State} (hb : s.line.broadcast = none) : HandedOut s s :=
  ⟨hb, rfl, rfl, fun c hc => ⟨c, hc, rfl⟩⟩

theorem HandedOut.trans {s t u : State} (h : HandedOut s t) (k : HandedOut t u) : HandedOut s u :=
  ⟨k.broadcast, k.pendingBroadcast.trans h.pendingBroadcast, k.water.trans h.water, fun c hc => by
    obtain ⟨d, hd, kind⟩ := k.queue c hc
    obtain ⟨e, he, kind'⟩ := h.queue d hd
    exact ⟨e, he, kind.trans kind'⟩⟩

/-- The scan engine is IDLE and no poll of it is due. -/
def Engine.atRest (e : Engine) : Prop := e.mode = none ∧ e.due = false

theorem commandFailed_line (s : State) (c : Command) : ∃ r, (s.commandFailed c).line = { s.line with reports := r } := by
  unfold State.commandFailed
  split
  · exact ⟨s.line.reports, rfl⟩
  · exact ⟨_, rfl⟩

/-- The head command is attempted at its cutter's station (R137). -/
theorem grantStep_of_sendable {s : State} {c : Command} {cs : List Command} {a : Nat} (hb : s.line.broadcast = none)
    (hq : s.line.queue = c :: cs) (station : s.sendableTo c = some a) :
    s.grantStep = some ((s.setLine { s.line with queue := { c with attempts := c.attempts + 1 } :: cs }).openTx
      .command a (c.frame a), false) := by
  simp [State.grantStep, hb, hq, station]

/-- The head command that has no station to go to fails (R138). -/
theorem grantStep_of_unsendable {s : State} {c : Command} {cs : List Command} (hb : s.line.broadcast = none)
    (hq : s.line.queue = c :: cs) (gone : s.sendableTo c = none) :
    s.grantStep = some ((s.setLine { s.line with queue := cs }).commandFailed c, true) := by
  simp [State.grantStep, hb, hq, gone]

theorem grantStep_handedOut {s t : State} {again : Bool} (hb : s.line.broadcast = none)
    (rest : s.water.engine.atRest) (h : s.grantStep = some (t, again)) : HandedOut s t := by
  obtain ⟨idle, noPoll⟩ := rest
  have notDue : s.startDuePass = s := startDuePass_of_not_due (by simp [State.passDue, idle])
  cases hq : s.line.queue with
  | nil =>
    rw [grantStep_of_polls hb hq, notDue] at h
    simp only [State.grantPoll, noPoll, Bool.false_eq_true, if_false] at h
    split at h
    · cases h
      exact ⟨hb, rfl, rfl, fun c hc => ⟨c, hc, rfl⟩⟩
    · cases h
  | cons c cs =>
    have behind : ∀ d ∈ cs, d ∈ s.line.queue := fun d hd => by rw [hq]; exact List.mem_cons_of_mem _ hd
    cases station : s.sendableTo c with
    | some a =>
      rw [grantStep_of_sendable hb hq station] at h
      cases h
      refine ⟨hb, rfl, rfl, fun d hd => ?_⟩
      rcases List.mem_cons.1 hd with rfl | hd
      · exact ⟨c, by rw [hq]; exact List.mem_cons_self, rfl⟩
      · exact ⟨d, behind d hd, rfl⟩
    | none =>
      rw [grantStep_of_unsendable hb hq station] at h
      cases h
      obtain ⟨r, line⟩ := commandFailed_line (s.setLine { s.line with queue := cs }) c
      refine ⟨by rw [line]; exact hb, by rw [line]; rfl, by simp, fun d hd => ?_⟩
      rw [line] at hd
      exact ⟨d, behind d hd, rfl⟩

theorem grantTimes_handedOut (n : Nat) {s : State} (hb : s.line.broadcast = none) (rest : s.water.engine.atRest) :
    HandedOut s (s.grantTimes n) := by
  induction n generalizing s with
  | zero => exact .rfl' hb
  | succ n ih =>
    unfold State.grantTimes
    split
    · split
      next t move =>
        have first := grantStep_handedOut hb rest move
        exact first.trans (ih first.broadcast (by rw [first.water]; exact rest))
      next t move => exact grantStep_handedOut hb rest move
      next => exact .rfl' hb
    · exact .rfl' hb

theorem finish_handedOut {s : State} (hb : s.line.broadcast = none) (rest : s.water.engine.atRest) :
    HandedOut s s.finish := by
  obtain ⟨broadcast, pending, water, queue⟩ := grantTimes_handedOut _ hb rest
  rw [← State.grant] at *
  exact ⟨by rw [State.finish, outputStart_line]; exact broadcast, by rw [State.finish, outputStart_line]; exact pending,
    by rw [State.finish, outputStart_water]; exact water, by rw [State.finish, outputStart_line]; exact queue⟩

/-- With the line free, a broadcast that waits begins, and the arbiter moves nothing else (R134, R142). -/
theorem finish_of_waiting_broadcast {s : State} {b : Broadcast} (free : s.line.holder = .free)
    (hb : s.line.broadcast = some b) (begun : b.begun = false) :
    s.finish.line = (s.beginBroadcast b).line ∧ s.finish.water = s.water := by
  have granted : s.grant = s.beginBroadcast b := grant_of_handed free (by simp [State.grantStep, hb, begun])
  rw [State.finish, outputStart_line, outputStart_water, granted]
  exact ⟨rfl, by simp⟩

theorem expectedCutters_of_same {s t : State} (roster : t.line.roster = s.line.roster) (cutting : t.cutting = s.cutting) :
    t.expectedCutters = s.expectedCutters := by
  simp only [State.expectedCutters, State.cutterAt, roster, cutting]

/-! ### FLOOR RESTART (R146) -/

/-- Steps 1 to 3: the line dropped and the stations back (R146). -/
def State.lineDropped (s : State) : State := s.dropInFlight.restartStations

theorem unchanged_lineDropped (s : State) : Unchanged [.roster, .floor, .reports] s s.lineDropped := by
  intro p hp
  cases p
  case settings => exact ⟨rfl, rfl, rfl, rfl⟩
  all_goals simp_all [Part.same, State.lineDropped, State.dropInFlight, State.restartStations]

theorem lineDropped_station? (s : State) (a : Nat) :
    s.lineDropped.station? a = (s.station? a).map fun st => st.restarted s.seconds := by
  show lookup Station.address a (s.line.roster.map fun st => st.restarted s.seconds) = _
  unfold lookup
  rw [List.find?_map]
  rfl

/-- A broadcast that has been ordered and not begun (R141). -/
def Broadcast.ordered (k : BroadcastKind) : Broadcast :=
  { kind := k, begun := false, slots := [], missed := [], attempts := 0, removed := [], rebound := [] }

theorem orderBroadcast_of_none {s : State} (hb : s.line.broadcast = none) (k : BroadcastKind) :
    s.orderBroadcast k = s.setLine { s.line with broadcast := some (.ordered k) } := by
  simp only [State.orderBroadcast, hb, Broadcast.ordered]

/-- Steps 5 and 6 order a broadcast where line hold is ON, and only write the settings otherwise (R141, R146). -/
theorem restartLine_eq {s : State} (hb : s.line.broadcast = none) :
    s.restartLine = s.setLine { s.line with
      active := s.line.pendingSet
      broadcast := if s.gate.lineHold then some (.ordered .hold) else none } := by
  unfold State.restartLine
  dsimp only
  cases on : s.gate.lineHold with
  | false => rw [State.setLine_gate, on, ← hb]; rfl
  | true =>
    rw [State.setLine_gate, on, if_pos rfl]
    exact orderBroadcast_of_none (s := s.setLine { s.line with active := s.line.pendingSet }) hb .hold

/-- What FLOOR RESTART leaves before its result is written. -/
def State.floorRestarted (s : State) : State := s.lineDropped.restartWork.restartLine

/-- The line port of a restarted floor line: nothing in flight, the pending set active, only STARTs of records that
waited, and HOLD ordered where line hold is ON. -/
theorem floorRestarted_line (s : State) :
    ∃ q, s.floorRestarted = s.lineDropped.restartWork.setLine { s.lineDropped.line with
        queue := q
        active := s.line.pendingSet
        broadcast := if s.gate.lineHold then some (.ordered .hold) else none } ∧
      ∀ c ∈ q, ∃ i ∈ s.gate.waiting, c.kind = .start i := by
  have wound := restartWork_woundUp s.lineDropped
  obtain ⟨q, line, started⟩ := wound.line
  refine ⟨q, ?_, fun c hc => (started c hc).resolve_left ?_⟩
  · rw [State.floorRestarted, restartLine_eq (by rw [line]; rfl), wound.lineHold, line]
    rfl
  · rintro ⟨d, hd, -⟩
    cases hd

theorem floorRestarted_engine (s : State) : s.floorRestarted.water.engine = s.water.engine.halted := by
  obtain ⟨q, restarted, -⟩ := floorRestarted_line s
  rw [restarted, State.setLine_water, restartWork_engine]
  rfl

theorem floorRestarted_cutting (s : State) : s.floorRestarted.cutting = s.lineDropped.restartWork.cutting := by
  obtain ⟨q, restarted, -⟩ := floorRestarted_line s
  rw [restarted]
  rfl

/-- The tables a restart keeps (R1, R75, R95, R146, R152, R167, R169). -/
theorem unchanged_floorRestarted (s : State) :
    Unchanged [.plans, .cutting, .gate, .roster, .settings, .floor, .reports] s s.floorRestarted := by
  obtain ⟨q, restarted, -⟩ := floorRestarted_line s
  have dropped := (unchanged_lineDropped s).mono
    (show _ ⊆ [.plans, .cutting, .gate, .roster, .settings, .floor, .reports] by decide)
  have worked := dropped.trans ((restartWork_woundUp s.lineDropped).parts.mono (by decide)) (by decide)
  rw [restarted]
  refine worked.trans (fun p hp => ?_) (by decide)
  cases p <;> simp_all [Part.same]

theorem floorRestarted_office (s : State) : s.floorRestarted.office = s.office := by
  obtain ⟨q, restarted, -⟩ := floorRestarted_line s
  rw [restarted, State.setLine_office, (restartWork_woundUp _).office]
  rfl

/-- What the arbiters make of a restarted floor line: the engine rests, the queue holds no more than the STARTs, and HOLD
goes out where line hold is ON (R134, R141, R142). -/
theorem floorRestarted_finish {s v : State} (line : v.line = s.floorRestarted.line)
    (water : v.water = s.floorRestarted.water) :
    v.finish.water.engine = s.water.engine.halted ∧
      (∀ c ∈ v.finish.line.queue, ∃ i ∈ s.gate.waiting, c.kind = .start i) ∧
      v.finish.line.pendingBroadcast = none ∧ (s.gate.lineHold = false → v.finish.line.broadcast = none) ∧
      (s.gate.lineHold = true → v.finish.line.holder = .frame ∧ v.finish.line.out = some (broadcastFrame 0 .hold) ∧
        v.finish.line.broadcast =
          some { kind := .hold, begun := true, slots := v.finish.expectedCutters, missed := [], attempts := 0,
                 removed := [], rebound := [] }) := by
  have engine : v.water.engine = s.water.engine.halted := by rw [water, floorRestarted_engine]
  obtain ⟨q, restarted, started⟩ := floorRestarted_line s
  rw [restarted, State.setLine_line] at line
  cases hold : s.gate.lineHold with
  | false =>
    rw [hold] at line
    have quiet := finish_handedOut (s := v) (by rw [line]; rfl) (by rw [engine]; exact ⟨rfl, rfl⟩)
    refine ⟨by rw [quiet.water, engine], fun c hc => ?_, by rw [quiet.pendingBroadcast, line]; rfl,
      fun _ => quiet.broadcast, fun on => absurd on Bool.false_ne_true⟩
    obtain ⟨d, hd, kind⟩ := quiet.queue c hc
    rw [line] at hd
    rw [kind]
    exact started d hd
  | true =>
    rw [hold] at line
    obtain ⟨begun, kept⟩ := finish_of_waiting_broadcast (s := v) (by rw [line]; rfl) (by rw [line]; rfl) rfl
    have slots : v.finish.expectedCutters = v.expectedCutters :=
      expectedCutters_of_same (finish_roster v) (finish_cutting v)
    rw [begun, kept, slots]
    refine ⟨engine, fun c hc => started c ?_, ?_, fun off => absurd off.symm Bool.false_ne_true, fun _ => ⟨rfl, rfl, rfl⟩⟩
    · have stood : c ∈ v.line.queue := hc
      rw [line] at stood
      exact stood
    · show v.line.pendingBroadcast = none
      rw [line]
      rfl

theorem floorRestartItem_eq (o : Origin) (s : State) : floorRestartItem o s = .ok s.floorRestarted := rfl

theorem floorRestarted_settings (s : State) :
    s.floorRestarted.line.active = s.line.pendingSet ∧ s.floorRestarted.line.pendingSet = s.line.pendingSet ∧
      s.floorRestarted.line.staleness = s.line.staleness ∧
      s.floorRestarted.line.passInterval = s.line.passInterval := by
  obtain ⟨q, restarted, -⟩ := floorRestarted_line s
  rw [restarted]
  exact ⟨rfl, rfl, rfl, rfl⟩

theorem floorRestarted_station? (s : State) (a : Nat) :
    s.floorRestarted.station? a = (s.station? a).map fun st => st.restarted s.seconds := by
  obtain ⟨q, restarted, -⟩ := floorRestarted_line s
  rw [restarted]
  exact lineDropped_station? s a

/-- Settles O46: the restart's steps in order, then the arbiters behind the answer. -/
theorem floorRestartPutsTheLineBack : Obligations.FloorRestartPutsTheLineBack := by
  intro s h rest o hr
  obtain ⟨-, -, -, -, -, -, -, water, -, line, -⟩ := answerItem_same s.floorRestarted h rest ⟨.ok, []⟩
  obtain ⟨engine, queue, pending, off, on⟩ := floorRestarted_finish line water
  obtain ⟨active, pendingSet, staleness, passInterval⟩ := floorRestarted_settings s
  have cutters := cutter_of_same (floorRestarted_cutting s)
  have records := record_of_same (floorRestarted_cutting s)
  refine ⟨replied s.floorRestarted h rest .ok [], exec_of_taken (owner := floorRestartItem) rfl hr
    (floorRestartItem_eq o s), fun a st hs => ?_, by rw [replied_active, active], by rw [replied_pendingSet, pendingSet],
    by rw [replied_staleness, staleness], by rw [replied_passInterval, passInterval], (congrArg Engine.mode engine :),
    (congrArg Engine.inFlight engine :), (congrArg Engine.scanList engine :), (congrArg Engine.run engine :),
    fun n c hc => ?_, fun n c id r hc slot hid sent only => ?_, queue, pending, off, on,
    answered_replied (floorRestarted_office s),
    unchanged_replied (unchanged_floorRestarted s) (floorRestarted_office s) (.inr (by decide))⟩
  · rw [replied_station?, floorRestarted_station?, hs]
    exact ⟨rfl, rfl, rfl⟩
  · rw [replied_cutter?, cutters]
    exact restartWork_holdMark (s := s.lineDropped) hc
  · obtain ⟨faulted, ended⟩ := restartWork_faults (s := s.lineDropped) hc slot hid sent only
    refine ⟨by rw [replied_cutter?, cutters]; exact faulted, fun k hk => ?_⟩
    rw [replied_record?, records]
    exact ended k hk

end Sys2Proof.Machine
end

section
/-! PROOFS. What every operation keeps in its place: the office port behind which it works, the origin that may send TABLE
items (R152), the line command queue (R136) and the stock table (R1). -/

namespace Sys2Proof.Machine

/-! ### Keyed tables in rising order -/

section Sorted

variable {α : Type} {key : α → Nat}

theorem put_sorted {l : List α} (h : l.Pairwise fun x y => key x < key y) (a : α) :
    (put key a l).Pairwise fun x y => key x < key y := by
  induction l with
  | nil => exact List.pairwise_singleton _ _
  | cons b l ih =>
    obtain ⟨hb, hl⟩ := List.pairwise_cons.1 h
    unfold put
    split
    next lt =>
      exact List.pairwise_cons.2 ⟨List.forall_mem_cons.2 ⟨lt, fun x hx => Nat.lt_trans lt (hb x hx)⟩, h⟩
    next =>
      split
      next eq => exact List.pairwise_cons.2 ⟨fun x hx => eq ▸ hb x hx, hl⟩
      next ge ne =>
        refine List.pairwise_cons.2 ⟨fun x hx => ?_, ih hl⟩
        rcases mem_put key hx with rfl | hx
        · omega
        · exact hb x hx

/-- A record of the key stands in a table in rising order: the put takes its place. -/
theorem length_put_of_known {l : List α} (h : l.Pairwise fun x y => key x < key y) {a : α}
    (known : (lookup key (key a) l).isSome = true) : (put key a l).length = l.length := by
  induction l with
  | nil => cases known
  | cons b l ih =>
    obtain ⟨hb, hl⟩ := List.pairwise_cons.1 h
    obtain ⟨x, hx⟩ := Option.isSome_iff_exists.1 known
    have xkey := lookup_key key hx
    unfold put
    split
    next lt =>
      rcases List.mem_cons.1 (lookup_mem key hx) with rfl | mem
      · omega
      · have := hb x mem
        omega
    next =>
      split
      next => rfl
      next ne =>
        rw [lookup_cons, if_neg (Ne.symm ne)] at known
        simp [ih hl known]

theorem length_remove_of_known {l : List α} {k : Nat} (known : (lookup key k l).isSome = true) :
    (remove key k l).length < l.length := by
  obtain ⟨x, hx⟩ := Option.isSome_iff_exists.1 known
  exact List.length_filter_lt_length_iff_exists.2 ⟨x, lookup_mem key hx, by simp [lookup_key key hx]⟩

end Sorted

/-! ### The stock table (R1) -/

/-- At most 256 slab records, in rising order of their ids (R1). -/
def SlabsHold (l : List Slab) : Prop := l.length ≤ 256 ∧ l.Pairwise fun a b => a.id < b.id

theorem SlabsHold.put_known {l : List Slab} (h : SlabsHold l) {sl : Slab}
    (known : (lookup Slab.id sl.id l).isSome = true) : SlabsHold (put Slab.id sl l) :=
  ⟨by rw [length_put_of_known h.2 known]; exact h.1, put_sorted h.2 sl⟩

theorem SlabsHold.put_room {l : List Slab} (h : SlabsHold l) (sl : Slab) (room : l.length < 256) :
    SlabsHold (put Slab.id sl l) :=
  ⟨Nat.le_trans (length_put_le Slab.id sl l) room, put_sorted h.2 sl⟩

theorem SlabsHold.remove {l : List Slab} (h : SlabsHold l) (id : Nat) : SlabsHold (remove Slab.id id l) :=
  ⟨Nat.le_trans (length_remove_le Slab.id id l) h.1, h.2.filter _⟩

/-! ### The origin table (R152) -/

theorem keepsTable_cons (o : Origin) (l : List Origin) :
    keepsTable (o :: l) = (o.cls == 0 && o.has .table || keepsTable l) := rfl

/-- A context that is written takes no origin's class or areas away (R156). -/
theorem keepsTable_putContext {o : Origin} (c : Context) {l : List Origin}
    (found : lookup Origin.number o.number l = some o) (h : keepsTable l = true) :
    keepsTable (put Origin.number { o with ctx := c } l) = true := by
  induction l with
  | nil => cases found
  | cons b l ih =>
    unfold put
    split
    · rw [keepsTable_cons, h, Bool.or_true]
    · rw [lookup_cons] at found
      split
      next same =>
        rw [if_pos same.symm] at found
        cases found
        exact h
      next other =>
        rw [if_neg (Ne.symm other)] at found
        rw [keepsTable_cons, Bool.or_eq_true] at h ⊢
        exact h.imp id (ih found)

/-! ### Operations behind the office port -/

/-- From `s` to `t` the office port and the frame in hand stay as they are, and the origin table, the line command queue
and the stock table stay within their rules. -/
structure Within (s t : State) : Prop where
  office : t.office = s.office
  inHand : t.handler.inHand = s.handler.inHand
  origins : TableStaysReachable s → TableStaysReachable t
  queue : QueueHolds s → QueueHolds t
  slabs : SlabsHold s.stock.slabs → SlabsHold t.stock.slabs

theorem Within.rfl' (s : State) : Within s s := ⟨rfl, rfl, id, id, id⟩

section Blocks

variable {s u t : State} (h : Within s u)
include h

/-- The commands of the queue are no more than before; the other tables are as they were. -/
theorem Within.of_shorter (queue : t.line.queue.length ≤ u.line.queue.length) (office : t.office = u.office := by simp)
    (handler : t.handler = u.handler := by simp) (slabs : t.stock.slabs = u.stock.slabs := by simp) : Within s t :=
  ⟨office.trans h.office, handler ▸ h.inHand, fun hs => by rw [TableStaysReachable, handler]; exact h.origins hs,
    fun hs => Nat.le_trans queue (h.queue hs), fun hs => slabs ▸ h.slabs hs⟩

/-- An operation of other blocks. -/
theorem Within.of_same (queue : t.line.queue = u.line.queue := by simp) (office : t.office = u.office := by simp)
    (handler : t.handler = u.handler := by simp) (slabs : t.stock.slabs = u.stock.slabs := by simp) : Within s t :=
  h.of_shorter (Nat.le_of_eq (by rw [queue])) office handler slabs

theorem Within.setFreeCount (x : Nat) : Within s (u.setFreeCount x) := h.of_same
theorem Within.setPlans (x : PlanTable) : Within s (u.setPlans x) := h.of_same
theorem Within.setCutting (x : Cutting) : Within s (u.setCutting x) := h.of_same
theorem Within.setCost (x : Cost) : Within s (u.setCost x) := h.of_same
theorem Within.setGate (x : Gate) : Within s (u.setGate x) := h.of_same
theorem Within.setWater (x : Water) : Within s (u.setWater x) := h.of_same
theorem Within.setAlarms (x : Alarms) : Within s (u.setAlarms x) := h.of_same
/-- The line port is written, its queue left as it is. -/
theorem Within.setLine (x : LinePort) (queue : x.queue = u.line.queue) : Within s (u.setLine x) := h.of_same queue

theorem Within.queueReport (b : ReportBody) : Within s (u.queueReport b) := h.of_same
theorem Within.stockReport (e : StockEvent) (id : Nat) : Within s (u.stockReport e id) := h.of_same

theorem Within.raise (k : AlarmKind) (n : Nat) : Within s (u.raise k n) := h.of_same

/-- Any one alarm that is raised under a condition. -/
theorem Within.raiseIf (p : Prop) [Decidable p] (k : AlarmKind) (n : Nat) : Within s (if p then u.raise k n else u) := by
  split
  · exact h.raise k n
  · exact h

/-! ### The stock table's writes (R1, R13) -/

/-- The stock table is written, the other tables are as they were. -/
theorem Within.of_slabs (slabs : SlabsHold s.stock.slabs → SlabsHold t.stock.slabs)
    (queue : t.line.queue = u.line.queue := by simp) (office : t.office = u.office := by simp)
    (handler : t.handler = u.handler := by simp) : Within s t := by
  obtain ⟨o, i, r, q, -⟩ := h.of_same (t := t.setStock u.stock) queue office handler
  exact ⟨o, i, r, q, slabs⟩

theorem Within.putSlab (sl : Slab) (known : (u.slab? sl.id).isSome = true) : Within s (u.putSlab sl) :=
  h.of_slabs fun hs => (h.slabs hs).put_known known

theorem Within.putSlab_room (sl : Slab) (room : u.stock.slabs.length < 256) : Within s (u.putSlab sl) :=
  h.of_slabs fun hs => (h.slabs hs).put_room sl room

theorem Within.dropSlab (id : Nat) : Within s (u.dropSlab id) :=
  h.of_slabs fun hs => (h.slabs hs).remove id

end Blocks

/-! ### Records that end (R57, R61, R63, R125, R136) -/

section Records

variable {s u : State} (h : Within s u)
include h

theorem Within.withdraw (n id : Nat) : Within s (u.withdraw n id) := h.of_shorter (withdraw_queue_length u n id)

/-- A command joins the queue only while there is room (R136). -/
theorem Within.enqueue (c : Command) : Within s (u.enqueue c).1 := by
  unfold State.enqueue
  split
  next room =>
    have joined := h.of_same (t := u.setLine { u.line with queue := u.line.queue })
    have bounded : (u.line.queue ++ [c]).length ≤ 16 := by rw [List.length_append]; exact room
    exact ⟨joined.office, joined.inHand, joined.origins, fun _ => bounded, joined.slabs⟩
  · exact h

theorem Within.enqueueAbort (n : Nat) : Within s (u.enqueueAbort n) := by
  unfold State.enqueueAbort
  split
  · exact h
  · exact h.enqueue _

theorem Within.changeCutter (n : Nat) (f : Cutter → Cutter) : Within s (u.changeCutter n f) := h.of_same

theorem Within.faultCutter (n : Nat) : Within s (u.faultCutter n) := h.changeCutter _ _

theorem Within.mapRecords (n : Nat) (f : CutRecord → CutRecord) : Within s (u.mapRecords n f) := h.of_same

theorem Within.changeStep (id n : Nat) (f : Step → Step) : Within s (u.changeStep id n f) := h.of_same

theorem Within.project (id : Nat) : Within s (u.project id) := h.of_same

theorem Within.finishRecord (r : CutRecord) (e : Option Ending) (p : CutReport) : Within s (u.finishRecord r e p) := by
  unfold State.finishRecord
  dsimp only
  generalize gone : State.setCutting _ _ = v
  have left : Within s v := by
    rw [← gone]
    refine Within.setCutting (Within.setGate ?_ _) _
    split
    · exact h
    · exact h.setCutting _
  have reported := (left.withdraw r.onCutter r.id).queueReport (.cut p)
  split
  · exact reported
  · exact reported.setCutting _

theorem Within.endRecord (r : CutRecord) (e : Ending) (b : Bool) : Within s (u.endRecord r e b) := by
  refine Within.finishRecord ?_ _ _ _
  split
  · exact (h.changeStep _ _ _).project _
  · exact (h.changeStep _ _ _).project _

theorem Within.endAll (ids : List Nat) (e : Ending) : Within s (u.endAll ids e) :=
  List.foldlRecOn ids _ h fun v hv id _ => by
    split
    · exact hv
    · exact hv.endRecord _ _ _

theorem Within.faultSweep (n : Nat) : Within s (u.faultSweep n) := h.endAll _ _

theorem Within.endWaiting (n : Nat) (e : Ending) : Within s (u.endWaiting n e) :=
  List.foldlRecOn (u.slotsOf n) _ h fun v hv id _ => by
    split
    · exact hv
    · split
      · exact hv.endRecord _ _ _
      · exact hv

theorem Within.startFailed (n id : Nat) : Within s (u.startFailed n id).1 := by
  unfold State.startFailed
  split
  · split
    · exact h.endRecord _ _ _
    · exact h
  · exact h

theorem Within.cutterLost (n : Nat) : Within s (u.cutterLost n).1 := by
  unfold State.cutterLost
  split
  · exact h
  · exact (h.setCutting _).endAll _ _

theorem Within.forward (r : CutRecord) : Within s (u.forward r) := by
  have sent : Within s (u.putRecord { r with state := .sent }) := h.setCutting _
  have joined := sent.enqueue
    { kind := .start r.id, onCutter := r.onCutter, attempts := 0, body := startBody r, orphan := false }
  unfold State.forward
  dsimp only
  generalize State.enqueue _ _ = result at joined ⊢
  obtain ⟨v, room⟩ := result
  cases room with
  | true => exact joined
  | false => exact joined.startFailed _ _

theorem Within.reevaluate : Within s u.reevaluate := by
  unfold State.reevaluate
  generalize u.gate.waiting.length = n
  induction n generalizing u with
  | zero => exact h
  | succ n ih =>
    unfold State.walk
    split
    · exact h
    · split
      · exact h
      · split
        · exact ih ((h.setGate _).forward _)
        · exact h

theorem Within.reevaluateIf (b : Bool) : Within s (u.reevaluateIf b) := by
  unfold State.reevaluateIf
  split
  · exact h.reevaluate
  · exact h

theorem Within.gateNew (r : CutRecord) : Within s (u.gateNew r).1 := by
  unfold State.gateNew
  split
  · exact h.forward r
  · exact h.setGate _

end Records

/-! ### Line hold, alarms and charges (R90, R116 to R119, R170 to R172) -/

section Alarms

variable {s u : State} (h : Within s u)
include h

theorem Within.recomputeHold : Within s u.recomputeHold := by
  obtain ⟨b, p, line⟩ := recomputeHold_line u
  exact h.of_same (by rw [line])

theorem Within.recomputeHoldAndWalk : Within s u.recomputeHoldAndWalk := by
  unfold State.recomputeHoldAndWalk
  dsimp only
  split
  · exact h.recomputeHold.reevaluate
  · exact h.recomputeHold

theorem Within.evaluateLatch (test : Bool) : Within s (u.evaluateLatch test) := by
  refine Within.recomputeHold ?_
  unfold State.setLatch State.clearLatch
  split <;> split
  · exact h
  · exact (h.setGate _).raise _ _
  · exact h.setGate _
  · exact h

theorem Within.waterItem : Within s u.waterItem := (h.evaluateLatch _).reevaluate

theorem Within.setRoles (l t r m : Option Nat) : Within s (u.setRoles l t r m) := (h.setGate _).waterItem

theorem Within.setOfficeHold (on : Bool) : Within s (u.setOfficeHold on) := (h.setGate _).recomputeHoldAndWalk

theorem Within.changeAlarms (a : Alarms) : Within s (u.changeAlarms a) := by
  unfold State.changeAlarms
  dsimp only
  split
  · exact h.setAlarms a
  · exact ((h.setAlarms a).setGate _).recomputeHoldAndWalk

theorem Within.putJob (j : Job) : Within s (u.putJob j) := h.setCost _

theorem Within.addCharge (n : Nat) (c : Charge) : Within s (u.addCharge n c) :=
  addCharge_keeps (h.putJob _) fun _ k hv => hv.raise k n

theorem Within.chargeStone (n a b : Nat) : Within s (u.chargeStone n a b) := h.addCharge _ _

theorem Within.chargeMakeup (n : Nat) : Within s (u.chargeMakeup n) :=
  chargeMakeup_keeps (fun _ c hv => hv.addCharge 0 c) n h

theorem Within.requote (n : Nat) (q : Option Nat) : Within s (u.requote n q) := (h.putJob _).raiseIf _ _ _

theorem Within.wearTool (n a : Nat) : Within s (u.wearTool n a) := by
  unfold State.wearTool
  split
  · exact h
  · exact ((h.setCutting _).raiseIf _ _ _).raiseIf _ _ _

theorem Within.timeOut (r : CutRecord) : Within s (u.timeOut r) :=
  (((h.endRecord r _ _).faultCutter _).raise _ _).faultSweep _

theorem Within.mismatch (c : Cutter) : Within s (u.mismatch c) := ((h.raise _ _).faultCutter _).endAll _ _

end Alarms

/-! ### The stock table and completions (R3 to R9, R16 to R18, R31 to R35, R67) -/

section Stock

variable {s u : State} (h : Within s u)
include h

theorem Within.flawsChanged (id : Nat) (old new : List Zone) : Within s (u.flawsChanged id old new) :=
  (h.project id).raiseIf _ _ _

/-- A record that the table holds under its id. -/
theorem Within.putFound {id : Nat} {sl : Slab} (found : u.slab? id = some sl) (x : Slab) (same : x.id = sl.id) :
    Within s (u.putSlab x) :=
  h.putSlab x (by rw [same, slab_key found, found]; rfl)

theorem Within.scan (a : Nat) (d : ScanData) : Within s (u.scan a d).1 := by
  unfold State.scan
  split
  · split
    next sl found =>
      have updated := (h.putFound found { sl with
        zones := d.zones.filterMap fun z => zoneClip z sl.length sl.width } rfl).stockReport .updated sl.id
      unfold State.rescan
      dsimp only
      split
      · exact updated.flawsChanged _ _ _
      · exact updated
    · split
      next room => exact (h.putSlab_room d.record room).stockReport _ _
      · exact h.raise _ _
  · exact h

theorem Within.reserved {id : Nat} {sl : Slab} (found : u.slab? id = some sl) (j : Nat) : Within s (u.reserved sl j) := by
  have put := h.putFound found { sl with state := .reserved j } rfl
  unfold State.reserved
  dsimp only
  split
  · exact put.of_same (slabs := rfl)
  · exact put

theorem Within.cleared (sl : Slab) : Within s (u.cleared sl) := (h.dropSlab sl.id).stockReport _ _

theorem Within.discarded (sl : Slab) : Within s (u.discarded sl) := by
  obtain ⟨-, e⟩ | ⟨b, -, e⟩ := discarded_cases u sl <;> rw [e]
  · exact h.cleared sl
  · exact (h.cleared sl).chargeStone _ _ _

theorem Within.evict (sl : Slab) : Within s (u.evict sl) :=
  (((h.dropSlab sl.id).chargeStone _ _ _).raise _ _).stockReport _ _

theorem Within.chargeScrap (sl : Slab) (job scrap : Nat) : Within s (u.chargeScrap sl job scrap) := by
  unfold State.chargeScrap
  split
  · exact h
  · exact h.chargeStone _ _ _

theorem Within.applyCompletion (id n : Nat) (e : CutEnd) (k : Nat) (l : List Nat) :
    Within s (u.applyCompletion id n e k l).1 := by
  unfold State.applyCompletion
  split
  next sl p found _ =>
    split
    · refine Within.project (Within.setPlans (Within.putFound h found _ ?_) _) id
      rfl
    · exact h
  · exact h

theorem Within.startQueued (n : Nat) : Within s (u.startQueued n) := by
  unfold State.startQueued
  split
  · exact h
  · exact h.mapRecords _ _

theorem Within.takeCompletion (c : Cutter) (r : CutRecord) (m : Completion) : Within s (u.takeCompletion c r m) := by
  have applied := h.applyCompletion r.slab r.number m.ending (min m.pieces r.pieces.length) m.lengths
  unfold State.takeCompletion
  generalize u.applyCompletion r.slab r.number m.ending (min m.pieces r.pieces.length) m.lengths = result at applied ⊢
  obtain ⟨v, hand⟩ := result
  dsimp only at applied ⊢
  generalize v.cutCharge c r m hand _ = charge
  have taken := (applied.addCharge r.job charge).changeCutter r.onCutter fun k => { k with lastTaken := some m.echo }
  have worn := (taken.finishRecord r none (r.takenReport m.ending hand charge)).wearTool r.onCutter
    (min m.travel r.travel * (((u.slab? r.slab).map Slab.thickness).getD 0 + c.settings.overcut))
  have ended := worn.endWaiting r.onCutter (.failed .toolWorn)
  split <;> split
  · exact ((ended.faultCutter _).raise _ _).faultSweep _
  · exact ((worn.faultCutter _).raise _ _).faultSweep _
  · exact ended.startQueued _
  · exact worn.startQueued _

theorem Within.lateCompletion (c : Cutter) (x : Uncertain) (m : Completion) : Within s (u.lateCompletion c x m) :=
  (((h.setCutting _).raise _ _).queueReport _).setFreeCount _

theorem Within.completion (c : Cutter) (m : Completion) : Within s (u.completion c m) := by
  unfold State.completion
  split
  · exact (h.takeCompletion _ _ _).reevaluate
  · exact h
  · exact h.lateCompletion _ _ _
  · exact (h.mismatch _).reevaluateIf _

/-- A remnant is made where a slab's record has left the table: there is room for it (R16, R18). -/
theorem Within.createRemnant (room : SlabsHold s.stock.slabs → u.stock.slabs.length < 256) (sl : Slab) (slot : Nat) :
    Within s (u.createRemnant sl slot) := by
  refine h.of_slabs (fun hs => ?_) ?_ ?_ ?_
  · rw [createRemnant_stock]
    exact (h.slabs hs).put_room _ (room hs)
  all_goals simp [State.createRemnant]

/-- The record of an unloaded slab leaves the table, and at most one remnant takes its place (R16 to R18). -/
theorem Within.unloadSequence {id : Nat} {sl : Slab} (found : u.slab? id = some sl) (job : Nat) :
    Within s (u.unloadSequence sl job) := by
  have cleared := h.cleared sl
  have known : (lookup Slab.id sl.id u.stock.slabs).isSome = true := by
    rw [slab_key found]
    exact Option.isSome_of_eq_some found
  have room : SlabsHold s.stock.slabs → (u.cleared sl).stock.slabs.length < 256 := fun hs => by
    rw [cleared_stock]
    exact Nat.lt_of_lt_of_le (length_remove_of_known known) (h.slabs hs).1
  by_cases hk : u.keepsFront sl
  · cases free : lowestFree (u.dropSlab sl.id).usedSlots 24 with
    | some slot =>
      rw [unloadSequence_of_slot hk free]
      exact (cleared.createRemnant room _ _).chargeScrap _ _ _
    | none =>
      cases he : (u.dropSlab sl.id).evictable with
      | some e =>
        have evicted : SlabsHold s.stock.slabs → ((u.cleared sl).evict e).stock.slabs.length < 256 := fun hs => by
          rw [evict_stock]
          exact Nat.lt_of_le_of_lt (length_remove_le Slab.id e.id _) (room hs)
        rw [unloadSequence_of_full hk free he]
        exact ((cleared.evict e).createRemnant evicted _ _).chargeScrap _ _ _
      | none =>
        rw [unloadSequence_of_stuck hk free he]
        exact (cleared.raise _ _).chargeScrap _ _ _
  · rw [unloadSequence_of_small hk]
    exact cleared.chargeScrap _ _ _

theorem Within.unloaded (c : Cutter) (id : Nat) : Within s (u.unloaded c id) := by
  have dropped : Within s (u.dropPlan id) := h.setPlans _
  refine Within.changeCutter ?_ _ _
  split
  · exact dropped
  next found => exact dropped.unloadSequence found _

end Stock

/-! ### Channels, samples and what is due (R63, R65, R71, R98, R100, R107 to R109, R121; log entry 2) -/

section Due

variable {s u t : State} (h : Within s u)
include h

theorem Within.writeChannel (x : Channel) (k : AlarmKind) (b : Bool) : Within s (u.writeChannel x k b) :=
  writeChannel_keeps (h.setWater _) fun put => put.raise _ _

theorem Within.makeupSample (rate now : Nat) : Within s (u.makeupSample rate now) := by
  cases ref : u.gate.makeupRef with
  | none =>
    rw [makeupSample_of_first rate now ref]
    exact h.setGate _
  | some t =>
    rw [makeupSample_of_ref rate now ref]
    exact (h.setGate _).chargeMakeup _

theorem Within.gateSample (n value time : Nat) : Within s (u.gateSample n value time) := by
  unfold State.gateSample
  split
  · exact (h.evaluateLatch _).reevaluate
  · exact (h.evaluateLatch _).reevaluate
  · exact h.reevaluate
  · exact h.makeupSample _ _
  · exact h

theorem Within.dealWith (n i : Nat) (o : PollOutcome) : Within s (u.dealWith n i o) := by
  unfold State.dealWith
  split
  · split
    · split
      · rw [goodValue_eq]
        exact (h.writeChannel _ _ _).gateSample _ _ _
      · rw [invalidValue_eq]
        exact h.writeChannel _ _ _
    · exact h
  · exact h

theorem Within.recompare (ch : Channel) : Within s (u.recompare ch) := by
  rw [recompare_eq]
  exact h.writeChannel _ _ _

theorem Within.defineChannel (n a i : Nat) (k : ChannelKind) (low high : Option Nat) :
    Within s (u.defineChannel n a i k low high) := by
  unfold State.defineChannel
  dsimp only
  split
  · exact h.setWater _
  · split
    · exact h.recompare _
    · split
      · exact h.setWater _
      · rw [enterStale_eq]
        exact h.writeChannel _ _ _

theorem Within.takeReport (r : LineReport) : Within s (u.takeReport r) := by
  cases r with
  | startFailed n id => exact (h.startFailed n id).reevaluateIf _
  | abortFailed n => exact h
  | unreachable n => exact (h.cutterLost n).reevaluateIf _

theorem Within.timeOutId (id : Nat) : Within s (u.timeOutId id) := by
  unfold State.timeOutId
  split
  · exact h
  · split
    · exact (h.timeOut _).reevaluate
    · exact h

theorem Within.staleId (n : Nat) : Within s (u.staleId n) := by
  unfold State.staleId
  split
  · exact h
  · split
    · rw [enterStale_eq]
      exact h.writeChannel _ _ _
    · exact h

theorem Within.startDuePass : Within s u.startDuePass := h.of_same

theorem Within.takeDue (due : u.takeDue = some t) : Within s t := by
  unfold State.takeDue at due
  split at due
  next r rest _ =>
    cases due
    exact (h.setLine { u.line with reports := rest } rfl).takeReport r
  next =>
    split at due
    next id _ _ =>
      cases due
      exact h.timeOutId id
    next =>
      split at due
      next n rest _ =>
        cases due
        exact (h.setWater _).staleId n
      next =>
        split at due
        · cases due
          exact h.startDuePass
        · split at due <;> cases due
          exact h

end Due

/-! ### Transactions of the floor line (R132, R133, R137, R142, R143) -/

section Transactions

variable {s u : State} (h : Within s u)
include h

theorem Within.freeLine : Within s u.freeLine := h.setLine _ rfl

theorem Within.hunt : Within s u.hunt := h.setLine _ rfl

theorem Within.closeTx (t : Tx) (ack : Bool) (o : PollOutcome) : Within s (u.closeTx t ack o) := h.setLine _ rfl

theorem Within.report (r : LineReport) : Within s (u.report r) := h.setLine _ rfl

theorem Within.putStation (st : Station) : Within s (u.putStation st) := h.setLine _ rfl

theorem Within.changeBroadcast (f : Broadcast → Broadcast) : Within s (u.changeBroadcast f) := h.setLine _ rfl

theorem Within.creditStation (a : Nat) : Within s (u.creditStation a) := by
  unfold State.creditStation
  split
  · exact h
  · exact h.putStation _

theorem Within.readerPolled (a : Nat) : Within s (u.readerPolled a) := by
  unfold State.readerPolled
  split
  · exact h
  · split
    · exact h.putStation _
    · exact h

/-- The head command leaves the queue (R137). -/
theorem Within.popCommand : Within s u.popCommand :=
  h.of_shorter (by simp [State.popCommand])

theorem Within.commandFailed (c : Command) : Within s (u.commandFailed c) := by
  unfold State.commandFailed
  split
  · exact h
  · exact h.report _

theorem Within.commandAttemptFailed : Within s u.commandAttemptFailed := by
  unfold State.commandAttemptFailed
  split
  · exact h
  · split
    · exact h.popCommand.commandFailed _
    · exact h

theorem Within.startAcked (n id : Nat) : Within s (u.startAcked n id) := h.of_same

theorem Within.commandAcked : Within s u.commandAcked := by
  unfold State.commandAcked
  split
  · exact h
  · dsimp only
    split
    · split
      · exact h.popCommand
      · exact h.popCommand.startAcked _ _
    · exact h.popCommand

theorem Within.broadcastAcked (k : BroadcastKind) (n : Nat) : Within s (u.broadcastAcked k n) := h.of_same

theorem Within.nextSlot : Within s u.nextSlot := by
  unfold State.nextSlot
  split
  · exact h.freeLine
  · split
    · exact h.freeLine
    · exact h.setLine _ rfl

theorem Within.slotAcked (r : SlotRef) : Within s (u.slotAcked r) := by
  refine Within.nextSlot ?_
  split
  · exact (h.creditStation _).broadcastAcked _ _
  · exact h.creditStation _

theorem Within.slotMissed (r : SlotRef) : Within s (u.slotMissed r) := by
  refine Within.nextSlot ?_
  split
  · exact h.changeBroadcast _
  · exact h

theorem Within.slotOther (r : SlotRef) (a : Nat) : Within s (u.slotOther r a) := by
  refine Within.slotMissed ?_ r
  split
  · exact h.creditStation _
  · exact h

theorem Within.retryAcked (r : SlotRef) : Within s (u.retryAcked r) := by
  refine Within.changeBroadcast ?_ _
  split
  · exact h
  · exact h.broadcastAcked _ _

theorem Within.engineAdvance : Within s u.engineAdvance := h.of_same

theorem Within.scanPollOver : Within s u.scanPollOver := h.of_same

theorem Within.loseStation (st : Station) : Within s (u.loseStation st) := (h.putStation _).raise _ _

theorem Within.failStation (a : Nat) : Within s (u.failStation a) := by
  unfold State.failStation State.stationLost
  dsimp only
  split
  · exact h
  next st _ =>
    have lost := h.loseStation st
    split
    · split
      · split
        · exact lost.report _
        · exact lost
      · exact lost
    · exact h.putStation _

theorem Within.retryFailed (r : SlotRef) : Within s (u.retryFailed r) := by
  have unacked : Within s (u.raise .holdUnacked r.onCutter).dropMissed := (h.raise _ _).changeBroadcast _
  unfold State.retryFailed
  dsimp only
  split
  · exact unacked
  next st _ =>
    have lost := unacked.loseStation st
    split
    · exact unacked
    · split
      · exact lost
      · exact lost.report _

theorem Within.retryAttemptFailed (r : SlotRef) (lost : Bool) : Within s (u.retryAttemptFailed r lost) := by
  unfold State.retryAttemptFailed
  split
  · exact h.retryFailed r
  · exact h

theorem Within.txFailed (t : Tx) : Within s (u.txFailed t) := by
  have freed := (h.failStation t.address).freeLine
  obtain ⟨kind, a, p⟩ := t
  cases kind with
  | command => exact freed.commandAttemptFailed
  | retry r => exact freed.retryAttemptFailed _ _
  | scanPoll n i run => exact freed.scanPollOver
  | poll => exact freed.readerPolled _

theorem Within.txNothing (t : Tx) : Within s (u.txNothing t) := by
  have freed := (h.creditStation t.address).freeLine
  obtain ⟨kind, a, p⟩ := t
  cases kind with
  | command => exact freed.commandAttemptFailed
  | retry r => exact freed.retryAttemptFailed _ _
  | scanPoll n i run => exact freed.scanPollOver
  | poll => exact freed.readerPolled _

theorem Within.txAcked (t : Tx) : Within s (u.txAcked t) := by
  have freed := (h.creditStation t.address).freeLine
  obtain ⟨kind, a, p⟩ := t
  cases kind with
  | command => exact freed.commandAcked
  | retry r => exact freed.retryAcked r
  | scanPoll n i run => exact freed.scanPollOver
  | poll => exact freed.readerPolled _

theorem Within.txClosed (t : Tx) (o : PollOutcome) : Within s (u.txClosed t o) := by
  have freed := h.freeLine
  obtain ⟨kind, a, p⟩ := t
  cases kind with
  | command => exact freed.commandAttemptFailed
  | retry r => exact freed.retryAttemptFailed _ _
  | scanPoll n i run => exact (freed.dealWith _ _ _).scanPollOver
  | poll => exact freed.readerPolled _

/-! ### What comes in on the floor line (R132, R139, R142, R183) -/

theorem Within.floorFrameBegins : Within s u.floorFrameBegins := by
  unfold State.floorFrameBegins
  split
  · exact h
  · exact h.setLine _ rfl

theorem Within.floorFrameGone : Within s u.floorFrameGone := by
  unfold State.floorFrameGone
  split
  · split
    · exact h.setLine _ rfl
    · exact h.txClosed _ _
    · exact h
  · exact h.nextSlot
  · exact h

theorem Within.windowExpires : Within s u.windowExpires := by
  unfold State.windowExpires
  split
  · split
    · split
      · exact h.setLine _ rfl
      · exact h.txFailed _
    · exact h
  · split
    · exact h.setLine _ rfl
    · exact h.slotMissed _
  all_goals exact h

theorem Within.badFrame : Within s u.badFrame := by
  unfold State.badFrame
  split
  · exact h
  · exact h.hunt
  · dsimp only
    split
    · exact h.hunt
    · exact h.hunt
    · exact h.hunt.slotMissed _
    · split
      · exact h.hunt.txFailed _
      all_goals exact h.hunt

/-- A good frame is discarded, or goes on as a reply or to a slot. -/
theorem Within.goodFrame {a : Nat} {onReply : Tx → State → State} {onSlot : SlotRef → State → State}
    (reply : ∀ t v, Within s v → Within s (onReply t v)) (slot : ∀ r v, Within s v → Within s (onSlot r v)) :
    Within s (u.goodFrame a onReply onSlot) := by
  unfold State.goodFrame
  split
  · exact h
  · exact h.hunt
  · unfold State.foreignFrame
    split
    · exact h.hunt.txFailed _
    · exact h.hunt
  · exact reply _ _ h.hunt
  · exact slot _ _ h.hunt

theorem Within.answered (t : Tx) {pass : State → State × Bool} (o : PollOutcome)
    (passes : ∀ v, Within s v → Within s (pass v).1) : Within s (u.answered t pass o) := by
  have credited := h.creditStation t.address
  unfold State.answered
  split
  · exact (passes _ credited).closeTx _ _ _
  · exact credited.closeTx _ _ _

theorem Within.passCompletion (a : Nat) (m : Completion) : Within s (passCompletion a m u).1 := by
  unfold Machine.passCompletion
  split
  · split
    · exact h.completion _ _
    · exact h
  · exact h

theorem Within.passScan (a : Nat) (d : ScanData) : Within s (passScan a d u).1 := by
  unfold Machine.passScan
  split
  · exact h.scan _ _
  · exact h

end Transactions

/-! ### What the items do (R40, R60, R72, R73, R146) -/

section ItemEffects

variable {s u : State} (h : Within s u)
include h

theorem Within.acceptUnresolved (id : Nat) (st : Step) : Within s (u.acceptUnresolved id st) :=
  (h.applyCompletion id st.number .done 0 []).addCharge _ _

theorem Within.rule (id : Nat) (st : Step) (ruling : Nat) : Within s (u.rule id st ruling) := by
  unfold State.rule
  split
  · exact (h.changeStep _ _ _).project _
  · split
    · split
      · exact h.acceptUnresolved _ _
      · exact (h.changeStep _ _ _).project _
    · exact (h.changeStep _ _ _).project _

theorem Within.loaded {id : Nat} {sl : Slab} (found : u.slab? id = some sl) (c : Cutter) (j : Nat) :
    Within s (u.loaded sl c j) := by
  have cut : Within s (u.putCutter { c with state := .loaded, slab := some sl.id }) := h.setCutting _
  exact (cut.putFound found { sl with state := .onBed j c.number } rfl).project _

theorem Within.accept (id : Nat) (c : Cutter) (sl : Slab) (st : Step) : Within s (u.accept id c sl st).1 := by
  refine Within.gateNew (Within.changeStep ?_ _ _ _) _
  exact ((h.setCutting _).setCutting _).setCutting _

theorem Within.aborted (c : Cutter) : Within s (u.aborted c) := by
  have flagged := (h.endWaiting c.number (.failed .aborted)).mapRecords c.number fun r =>
    if r.state.sentOrLater then { r with abortFlag := true } else r
  refine Within.reevaluateIf ?_ _
  split
  · exact flagged.enqueueAbort _
  · exact flagged

theorem Within.redefineCutter (c : Cutter) (a : Nat) (k : CutterKind) (st : CutterSettings) :
    Within s (u.redefineCutter c a k st) := by
  unfold State.redefineCutter
  dsimp only
  split
  · exact h.setCutting _
  · exact (h.setCutting _).changeBroadcast _

theorem Within.removeCutter (n : Nat) : Within s (u.removeCutter n) := (h.setCutting _).changeBroadcast _

theorem Within.restartCutter (n : Nat) : Within s (u.restartCutter n) := by
  refine Within.changeCutter ?_ _ _
  split
  · exact h.endAll _ _
  · exact ((h.endAll _ _).faultCutter n).faultSweep n

theorem Within.restartWork : Within s u.restartWork := by
  have restarted := List.foldlRecOn (motive := Within s) (u.cutting.cutters.map Cutter.number)
    State.restartCutter h fun _ hv n _ => hv.restartCutter n
  exact Within.reevaluateIf (restarted.setWater _) _

theorem Within.restartLine : Within s u.restartLine := by
  have active : Within s (u.setLine { u.line with active := u.line.pendingSet }) := h.setLine _ rfl
  unfold State.restartLine
  dsimp only
  split
  · obtain ⟨b, p, line⟩ := orderBroadcast_line (u.setLine { u.line with active := u.line.pendingSet }) .hold
    exact active.of_same (by rw [line])
  · exact active

/-- A restart empties the line command queue (R146). -/
theorem Within.floorRestarted : Within s u.floorRestarted := by
  have dropped : Within s u.lineDropped := h.of_shorter (Nat.zero_le _) rfl rfl rfl
  exact dropped.restartWork.restartLine

theorem Within.resettled (p : TxSettings) (x y : Nat) : Within s (u.resettled p x y) :=
  (h.setLine { u.line with pendingSet := p, staleness := x, passInterval := y } rfl).startDuePass

end ItemEffects

/-- The origin table is written, and nothing else. -/
theorem within_setOrigins (s : State) (l : List Origin)
    (kept : TableStaysReachable s → keepsTable l = true ∧ ∀ o ∈ l, o.number ≤ 15) :
    Within s (s.setHandler { s.handler with origins := l }) :=
  ⟨rfl, rfl, kept, id, id⟩

theorem within_putContext {s : State} {o : Origin} (found : s.origin? o.number = some o) (c : Context) :
    Within s (s.putOrigin { o with ctx := c }) :=
  within_setOrigins s _ fun ⟨table, places⟩ => ⟨keepsTable_putContext c found table, fun x hx => by
    rcases mem_put Origin.number hx with rfl | hx
    · exact places o (lookup_mem Origin.number found)
    · exact places x hx⟩

theorem within_putOrigin {s : State} {r : Origin} (place : r.number ≤ 15)
    (table : keepsTable (s.putOrigin r).handler.origins = true) : Within s (s.putOrigin r) :=
  within_setOrigins s _ fun ⟨_, places⟩ => ⟨table, fun x hx => by
    rcases mem_put Origin.number hx with rfl | hx
    · exact place
    · exact places x hx⟩

@[simp] theorem originAfter_number (s : State) (n c a : Nat) : (s.originAfter n c a).number = n := by
  unfold State.originAfter
  split
  · rfl
  next o found => exact origin_key (x := o) found

end Sys2Proof.Machine
end

section
/-! PROOFS. Office items go to their owners, and every step keeps the origin table, the input buffer, the line command
queue and the stock table within their rules (R1, R136, R148, R152). -/

namespace Sys2Proof.Machine

/-! ### Owners (R151, R166) -/

/-- An item that its owner takes gets OK or HELD, and leaves every table within its rules. -/
def Owned.within (s : State) : Owned → Prop
  | .taken code _ t => code.isTaken = true ∧ Within s t
  | .refused _ => True

section Owners

variable {s : State}

@[simp] theorem within_ok (t : State) : (Owned.ok t).within s ↔ Within s t := by simp [Owned.ok, Owned.within, ResultCode.isTaken]
@[simp] theorem within_okWith (d : List Byte) (t : State) : (Owned.okWith d t).within s ↔ Within s t := by
  simp [Owned.okWith, Owned.within, ResultCode.isTaken]
@[simp] theorem within_refused (c : ResultCode) : (Owned.refused c).within s := trivial

@[simp] theorem within_ensure (b : Bool) (c : ResultCode) (k : Owned) :
    (ensure b c k).within s ↔ (b = true → k.within s) := by
  cases b <;> simp

@[simp] theorem within_need {α : Type} (x : Option α) (c : ResultCode) (k : α → Owned) :
    (need x c k).within s ↔ ∀ a, x = some a → (k a).within s := by
  cases x <;> simp

/-- A slab that an item names stands in the table (R155, R166). -/
theorem within_needSlab {operand : Option Nat} {ctx : Context} {also : Bool} {k : Slab → Owned}
    (owned : ∀ id sl, s.slab? id = some sl → (k sl).within s) : (needSlab s operand ctx also k).within s := by
  simp only [needSlab, within_need, within_ensure]
  exact fun id _ _ sl => owned id sl

theorem within_needCutter {operand : Option Nat} {ctx : Context} {k : Cutter → Owned}
    (owned : ∀ c, (k c).within s) : (needCutter s operand ctx k).within s := by
  simp only [needCutter, within_need, within_ensure]
  exact fun _ _ _ c _ => owned c

theorem within_needJob {operand : Option Nat} {ctx : Context} {also : Bool} {k : Nat → Owned}
    (owned : ∀ n, (k n).within s) : (needJob operand ctx also k).within s := by
  simp only [needJob, within_need, within_ensure]
  exact fun n _ _ => owned n

end Owners

/-! ### Every item -/

/-- The command is an office item of an area: it goes to an owner, which leaves every table within its rules. -/
def IsItem (i : Instr) (area : Area) : Prop :=
  ∃ owner : Origin → State → Owned, (∀ s, exec i s = .next (s.itemStep i area owner)) ∧
    ∀ s o, s.origin? o.number = some o → (owner o s).within s

/-- An item is given by its owner; what the owner does begins at the state as it stands. -/
theorem isItem_of_owner {i : Instr} {area : Area} (owner : Origin → State → Owned)
    (hx : ∀ s, exec i s = .next (s.itemStep i area owner))
    (owned : ∀ s o, Within s s → s.origin? o.number = some o → (owner o s).within s) : IsItem i area :=
  ⟨owner, hx, fun s o found => owned s o (.rfl' s) found⟩

section Owners

variable (s : State) (o : Origin)

theorem findRemnantItem_within (l w : Nat) (lot : Option Nat) : (findRemnantItem l w lot o s).within s := by
  refine (within_ensure _ _ _).2 fun _ => ?_
  split
  · simp [Within.rfl' s]
  · exact (within_okWith _ _).2 ((Within.rfl' s).of_same (slabs := rfl))

theorem cutterItem_within (n a k : Nat) (st : CutterSettings) : (cutterItem n a k st o s).within s := by
  refine (within_need _ _ _).2 fun kind _ => (within_ensure _ _ _).2 fun _ => ?_
  split
  · exact (within_ok _).2 ((Within.rfl' s).setCutting _)
  · simp [(Within.rfl' s).redefineCutter]

theorem stationItem_within (a k : Nat) : (stationItem a k o s).within s := by
  refine (within_need _ _ _).2 fun kind _ => (within_ensure _ _ _).2 fun _ => (within_ensure _ _ _).2 fun _ => ?_
  split
  · simp [(Within.rfl' s).putStation]
  · split <;> simp [Within.rfl' s, (Within.rfl' s).putStation]

theorem scanStartItem_within (mode : Nat) (n : Option Nat) : (scanStartItem mode n o s).within s := by
  have engine : ∀ e, Within s (s.setEngine e) := fun e => (Within.rfl' s).setWater _
  unfold scanStartItem
  (repeat' split) <;> simp [startSingle, startPass, engine]

theorem scanStopItem_within : (scanStopItem o s).within s := by
  unfold scanStopItem
  split
  · exact (within_ok _).2 (.rfl' s)
  · exact (within_ok _).2 ((Within.rfl' s).setWater _)

theorem takeAlarmItem_within : (takeAlarmItem o s).within s := by
  unfold takeAlarmItem
  split <;> simp [Within.rfl' s, (Within.rfl' s).changeAlarms]

theorem cutItem_within (n : Nat) (slab c job : Option Nat) : (cutItem n slab c job o s).within s := by
  simp only [cutItem, cutChecks, within_need, within_ensure]
  intros
  refine ⟨?_, (Within.rfl' s).accept _ _ _ _⟩
  split <;> rfl

end Owners

section Items

variable {i : Instr}

theorem isItem_of_context (item : areaOf i = some .context) : IsItem i .context := by
  cases i with
  | useJob _ | useCutter _ | useSlab _ | contextClear =>
    exact isItem_of_owner _ (fun _ => rfl) fun s o _ found => by
      simp [useJobItem, useCutterItem, useSlabItem, contextClearItem, setContext, within_putContext found]
  | _ => cases item

theorem isItem_of_stock (item : areaOf i = some .stock) : IsItem i .stock := by
  cases i with
  | price _ _ _ | release _ =>
    refine isItem_of_owner _ (fun _ => rfl) fun s o h _ => within_needSlab fun id sl found => ?_
    simp [h.putFound found]
  | reserve _ _ =>
    refine isItem_of_owner _ (fun _ => rfl) fun s o h _ => ?_
    simp only [reserveItem, within_need, within_ensure, within_ok]
    exact fun _ _ j _ _ sl found _ _ _ => h.reserved found j
  | discard _ =>
    refine isItem_of_owner _ (fun _ => rfl) fun s o h _ => within_needSlab fun id sl found => ?_
    simp [h.discarded]
  | findRemnant l w lot => exact isItem_of_owner _ (fun _ => rfl) fun s o _ _ => findRemnantItem_within s o l w lot
  | remnantLimits w l =>
    refine isItem_of_owner _ (fun _ => rfl) fun s o h _ => ?_
    have limits : Within s (s.setStock { s.stock with minWidth := w, minLength := l }) := h.of_same
    simp [remnantLimitsItem, limits]
  | _ => cases item

theorem isItem_of_plan (item : areaOf i = some .plan) : IsItem i .plan := by
  cases i with
  | planLoad _ k _ =>
    refine isItem_of_owner _ (fun _ => rfl) fun s o h _ => ?_
    have put : ∀ p id, Within s ((s.putPlan p).project id) := fun p id => (h.setPlans _).project id
    simp [planLoadItem, put]
  | planClear _ =>
    refine isItem_of_owner _ (fun _ => rfl) fun s o h _ => within_needSlab fun id sl _ => ?_
    have dropped : Within s (s.dropPlan sl.id) := h.setPlans _
    simp [dropped]
  | skip _ n =>
    refine isItem_of_owner _ (fun _ => rfl) fun s o h _ => within_needSlab fun id sl _ => ?_
    have skipped : Within s (s.skipStep sl.id n) := (h.changeStep _ _ _).project _
    simp [skipped]
  | verdict _ _ _ =>
    refine isItem_of_owner _ (fun _ => rfl) fun s o h _ => within_needSlab fun id sl _ => ?_
    simp [h.rule]
  | tolerance _ => exact isItem_of_owner _ (fun _ => rfl) fun s o h _ => by simp [toleranceItem, h.setPlans]
  | _ => cases item

theorem isItem_of_work (item : areaOf i = some .work) : IsItem i .work := by
  cases i with
  | load _ _ _ =>
    refine isItem_of_owner _ (fun _ => rfl) fun s o h _ => ?_
    simp only [loadItem, within_need, within_ensure, within_ok]
    exact fun _ _ _ _ j _ _ c _ sl found _ _ _ => h.loaded found c j
  | unload _ =>
    refine isItem_of_owner _ (fun _ => rfl) fun s o h _ => within_needCutter fun c => ?_
    simp [h.unloaded]
  | toolChange _ | clearFault _ =>
    refine isItem_of_owner _ (fun _ => rfl) fun s o h _ => within_needCutter fun c => ?_
    have put : ∀ k, Within s (s.putCutter k) := fun k => h.setCutting _
    simp [put]
  | cut n slab c job => exact isItem_of_owner _ (fun _ => rfl) fun s o _ _ => cutItem_within s o n slab c job
  | abort _ =>
    refine isItem_of_owner _ (fun _ => rfl) fun s o h _ => within_needCutter fun c => ?_
    simp [h.aborted]
  | _ => cases item

theorem isItem_of_water (item : areaOf i = some .water) : IsItem i .water := by
  cases i with
  | scanList numbers =>
    refine isItem_of_owner _ (fun _ => rfl) fun s o h _ => ?_
    have listed : Within s (s.setEngine { s.water.engine with scanList := numbers, position := none }) := h.setWater _
    simp [scanListItem, listed]
  | scanStart mode n => exact isItem_of_owner _ (fun _ => rfl) fun s o _ _ => scanStartItem_within s o mode n
  | scanStop => exact isItem_of_owner _ (fun _ => rfl) fun s o _ _ => scanStopItem_within s o
  | channelLimits _ _ _ => exact isItem_of_owner _ (fun _ => rfl) fun s o h _ => by simp [channelLimitsItem, h.recompare]
  | waterRoles _ _ _ _ => exact isItem_of_owner _ (fun _ => rfl) fun s o h _ => by simp [waterRolesItem, h.setRoles]
  | waterMarks _ _ _ _ _ =>
    exact isItem_of_owner _ (fun _ => rfl) fun s o h _ => by simp [waterMarksItem, (h.setGate _).waterItem]
  | lineHold => exact isItem_of_owner _ (fun _ => rfl) fun s o h _ => (within_ok _).2 (h.setOfficeHold true)
  | lineRelease => exact isItem_of_owner _ (fun _ => rfl) fun s o h _ => (within_ok _).2 (h.setOfficeHold false)
  | _ => cases item

theorem isItem_of_job (item : areaOf i = some .job) : IsItem i .job := by
  cases i with
  | jobOpen _ _ | jobClose _ =>
    refine isItem_of_owner _ (fun _ => rfl) fun s o h _ => within_needJob fun n => ?_
    simp [h.putJob]
  | jobQuote _ _ =>
    refine isItem_of_owner _ (fun _ => rfl) fun s o h _ => within_needJob fun n => ?_
    simp [h.requote]
  | shopRates _ _ => exact isItem_of_owner _ (fun _ => rfl) fun s o h _ => by simp [shopRatesItem, h.setCost]
  | _ => cases item

theorem isItem_of_table (item : areaOf i = some .table) : IsItem i .table := by
  cases i with
  | station a k => exact isItem_of_owner _ (fun _ => rfl) fun s o _ _ => stationItem_within s o a k
  | stationRemove a =>
    refine isItem_of_owner _ (fun _ => rfl) fun s o h _ => ?_
    have removed : Within s (s.setLine { s.line with roster := remove Station.address a s.line.roster }) :=
      h.setLine _ rfl
    simp [stationRemoveItem, removed]
  | lineSettings _ _ _ _ _ =>
    exact isItem_of_owner _ (fun _ => rfl) fun s o h _ => by simp [lineSettingsItem, h.resettled]
  | floorRestart => exact isItem_of_owner _ (fun _ => rfl) fun s o h _ => (within_ok _).2 h.floorRestarted
  | cutter n a k _ _ _ _ _ _ _ _ _ =>
    exact isItem_of_owner _ (fun _ => rfl) fun s o _ _ => cutterItem_within s o n a k _
  | cutterRemove _ => exact isItem_of_owner _ (fun _ => rfl) fun s o h _ => by simp [cutterRemoveItem, h.removeCutter]
  | channel _ _ _ _ _ _ => exact isItem_of_owner _ (fun _ => rfl) fun s o h _ => by simp [channelItem, h.defineChannel]
  | channelRemove _ => exact isItem_of_owner _ (fun _ => rfl) fun s o h _ => by simp [channelRemoveItem, h.setWater]
  | alarmAction _ _ _ => exact isItem_of_owner _ (fun _ => rfl) fun s o h _ => by simp [alarmActionItem, h.changeAlarms]
  | origin n c a =>
    refine isItem_of_owner _ (fun _ => rfl) fun s o h _ => ?_
    simp only [originItem, within_ensure, within_okWith, Bool.and_eq_true, decide_eq_true_eq]
    exact fun ⟨place, _⟩ table => within_putOrigin (by rw [originAfter_number]; exact place) table
  | originRemove n =>
    refine isItem_of_owner _ (fun _ => rfl) fun s o h _ => ?_
    simp only [originRemoveItem, within_ensure, within_need, within_ok]
    exact fun _ _ _ table => within_setOrigins s _ fun ⟨_, places⟩ =>
      ⟨table, fun x hx => places x (List.mem_filter.1 hx).1⟩
  | openLevel _ =>
    exact isItem_of_owner _ (fun _ => rfl) fun s o h _ => (within_ensure _ _ _).2 fun _ => (within_ok _).2
      ⟨rfl, rfl, id, id, id⟩
  | _ => cases item

/-- A READ item changes nothing. -/
theorem isItem_of_read (item : areaOf i = some .read) : IsItem i .read := by
  cases i with
  | readSlab _ | readPlan _ | readCutter _ | readChannel _ | readJob _ | readRoster | readWater | readAlarms =>
    exact isItem_of_owner _ (fun _ => rfl) fun s o h _ => by
      simp [readSlabItem, readPlanItem, readCutterItem, readChannelItem, readJobItem, readRosterItem, readWaterItem,
        readAlarmsItem, needSlab, needCutter, needJob, h]
  | _ => cases item

theorem isItem_of_alarm (item : areaOf i = some .alarm) : IsItem i .alarm := by
  cases i with
  | takeAlarm => exact isItem_of_owner _ (fun _ => rfl) fun s o _ _ => takeAlarmItem_within s o
  | _ => cases item

/-- Every command with an area is an item that goes to its owner. -/
theorem isItem_of_areaOf {area : Area} (item : areaOf i = some area) : IsItem i area := by
  cases area with
  | context => exact isItem_of_context item
  | stock => exact isItem_of_stock item
  | plan => exact isItem_of_plan item
  | work => exact isItem_of_work item
  | water => exact isItem_of_water item
  | job => exact isItem_of_job item
  | table => exact isItem_of_table item
  | read => exact isItem_of_read item
  | alarm => exact isItem_of_alarm item

end Items

/-! ### The arbiters (R134, R160) -/

section Arbiters

variable {s u t : State}

theorem Within.openTx (h : Within s u) (k : TxKind) (a : Nat) (bytes : List Byte) : Within s (u.openTx k a bytes) :=
  h.setLine _ rfl

theorem Within.grantPoll (h : Within s u) {b : Bool} (move : u.grantPoll = some (t, b)) : Within s t := by
  unfold State.grantPoll at move
  dsimp only at move
  split at move
  next =>
    have taken : Within s (u.setEngine { u.water.engine with due := false }) := h.setWater _
    split at move
    · split at move <;> cases move
      · exact (taken.setWater _).openTx _ _ _
      · exact taken.engineAdvance
    · cases move
      exact taken.engineAdvance
  next =>
    split at move <;> cases move
    refine Within.openTx (h.setLine _ ?_) _ _ _
    rfl

/-- A move of the arbiter sends the head command again or passes it over; no command joins the queue (R134, R137). -/
theorem Within.grantStep (h : Within s u) {b : Bool} (move : u.grantStep = some (t, b)) : Within s t := by
  unfold State.grantStep at move
  split at move
  next =>
    split at move
    · cases move
      exact h.setLine _ rfl
    · split at move
      · cases move
        exact h.setLine _ rfl
      · split at move <;> cases move
        · refine Within.openTx (h.setLine _ ?_) _ _ _
          rfl
        · exact h.setLine _ rfl
  next =>
    split at move
    next c rest queue =>
      split at move <;> cases move
      · refine Within.openTx (h.of_shorter ?_) _ _ _
        rw [queue]
        exact Nat.le_refl _
      · refine Within.commandFailed (h.of_shorter ?_) _
        rw [queue]
        exact Nat.le_succ _
    next => exact h.startDuePass.grantPoll move

theorem Within.grant (h : Within s u) : Within s u.grant := by
  unfold State.grant
  generalize (u.line.broadcast.map fun b => b.missed.length).getD 0 + u.line.queue.length +
    u.water.engine.scanList.length + 5 = n
  induction n generalizing u with
  | zero => exact h
  | succ n ih =>
    unfold State.grantTimes
    split
    · split
      next move => exact ih (h.grantStep move)
      next move => exact h.grantStep move
      next => exact h
    · exact h

end Arbiters

/-! ### The input buffer (R148, R150, R160) -/

/-- The slot that the frame in hand holds, and the one that the frame being sent holds (R148). -/
def handSlots (h : Option InHand) : Nat := if h.isSome then 1 else 0
def sendingSlots : Option OfficeFrame → Nat
  | none => 0
  | some f => f.slots

/-- The occupied slots, one summand for each place of the office port and the handler. -/
theorem occupied_eq (s : State) :
    s.occupied = s.office.receiver.slots + s.office.received.length + handSlots s.handler.inHand +
      s.office.replies.length + sendingSlots s.office.sending := rfl

theorem occupied_of_same {s t : State} (office : t.office = s.office) (inHand : t.handler.inHand = s.handler.inHand) :
    t.occupied = s.occupied := by
  rw [occupied_eq, occupied_eq, office, inHand]

/-- A REPLY that begins to be sent keeps its slot, and a REPORT takes none (R148, R160). -/
theorem outputStart_occupied (s : State) : s.outputStart.occupied = s.occupied := by
  rw [occupied_eq, occupied_eq]
  unfold State.outputStart
  split
  · rfl
  next idle =>
    split
    next replies =>
      simp only [idle, replies, State.setOffice_office, State.setOffice_handler, List.length_cons, sendingSlots,
        OfficeFrame.slots]
      omega
    next replies => split <;> simp [idle, replies, sendingSlots, OfficeFrame.slots]

/-- The frame in hand keeps its slot, and its REPLY takes the slot over (R150). -/
theorem answerItem_occupied {s : State} (inHand : s.handler.inHand.isSome = true) (h : InHand) (rest : List RawItem)
    (r : Result) : (s.answerItem h rest r).occupied = s.occupied := by
  rw [occupied_eq, occupied_eq, handSlots, handSlots, inHand]
  unfold State.answerItem
  split
  · rfl
  · simp only [State.endFrame, State.setHandler_office, State.setOffice_office, State.setHandler_handler,
      Option.isSome_none, Bool.false_eq_true, ↓reduceIte, List.length_append, List.length_singleton]
    omega

/-- A frame that is begun takes its slot with it; one that is denied hands it to its REPLY (R150, R154). -/
theorem takeFrame_occupied (s : State) : s.takeFrame.occupied = s.occupied := by
  unfold State.takeFrame
  split
  next f rest free received =>
    rw [occupied_eq s, received, free]
    dsimp only
    split
    · simp only [occupied_eq, handSlots, State.setOffice_handler, State.setHandler_office, State.setOffice_office,
        State.setHandler_handler, Option.isSome_some, Option.isSome_none, Bool.false_eq_true, ↓reduceIte,
        List.length_cons]
      omega
    · simp only [occupied_eq, handSlots, State.endFrame, State.setOffice_office, State.setHandler_office,
        State.setHandler_handler, Option.isSome_none, Bool.false_eq_true, ↓reduceIte, List.length_append,
        List.length_cons, List.length_nil]
      omega
  next => rfl

/-- A receiver gives up the slot it held and takes what the next one holds. -/
theorem setReceiver_occupied (s : State) (r : Receiver) :
    (s.setReceiver r).occupied + s.office.receiver.slots = s.occupied + r.slots := by
  simp only [occupied_eq, State.setReceiver, State.setOffice_office, State.setOffice_handler]
  omega

/-- A frame takes a slot only while one is free (R148). -/
theorem BufferHolds.frameBegins {s : State} (h : BufferHolds s) : BufferHolds s.frameBegins := by
  unfold State.frameBegins
  split
  next hunting =>
    have taken := setReceiver_occupied s (.header s.readyLine)
    rw [hunting] at taken
    rw [BufferHolds] at h ⊢
    cases ready : s.readyLine with
    | true =>
      have room : s.occupied < 4 := of_decide_eq_true ready
      rw [ready] at taken
      simp only [Receiver.slots, if_true] at taken
      omega
    | false =>
      rw [ready] at taken
      exact Nat.le_trans (Nat.le_of_eq taken) h
  all_goals exact h

/-- A receiver that holds no more than before overfills nothing. -/
theorem BufferHolds.setReceiver {s : State} (h : BufferHolds s) {r : Receiver} (le : r.slots ≤ s.office.receiver.slots) :
    BufferHolds (s.setReceiver r) := by
  have changed := setReceiver_occupied s r
  rw [BufferHolds] at h ⊢
  omega

theorem BufferHolds.headerArrives {s : State} (h : BufferHolds s) (header : List Byte) :
    BufferHolds (s.headerArrives header) := by
  unfold State.headerArrives
  split
  next slot receiving =>
    split
    · split
      · exact h.setReceiver (Nat.zero_le _)
      · exact h.setReceiver (by rw [receiving]; exact Nat.le_refl _)
    · exact h
  all_goals exact h

/-- A frame is received in the slot that it came in (R149). -/
theorem BufferHolds.frameArrives {s : State} (h : BufferHolds s) (rest : List Byte) : BufferHolds (s.frameArrives rest) := by
  unfold State.frameArrives
  split
  next slot header receiving =>
    split
    · dsimp only
      split
      next =>
        refine Nat.le_trans (Nat.le_of_eq ?_) h
        simp only [occupied_eq, State.setReceiver, State.setOffice_office, State.setOffice_handler, receiving,
          Receiver.slots, ↓reduceIte, List.length_append, List.length_singleton]
        omega
      next => exact h.setReceiver (Nat.zero_le _)
    · exact h
  all_goals exact h

/-- A frame that has left frees its slot (R148, R160). -/
theorem BufferHolds.frameSent {s : State} (h : BufferHolds s) :
    BufferHolds (s.setOffice { s.office with sending := none }) :=
  Nat.le_trans (Nat.le_add_right _ _) h

/-! ### Whole steps -/

/-- From `s` to `t` the origin table, the input buffer, the line command queue and the stock table stay within their
rules. -/
structure Keeps (s t : State) : Prop where
  origins : TableStaysReachable s → TableStaysReachable t
  buffer : BufferHolds s → BufferHolds t
  queue : QueueHolds s → QueueHolds t
  slabs : SlabsHold s.stock.slabs → SlabsHold t.stock.slabs

theorem Keeps.rfl' (s : State) : Keeps s s := ⟨id, id, id, id⟩

section Steps

variable {s u t : State} (h : Keeps s u)
include h

theorem Keeps.within (k : Within u t) : Keeps s t :=
  ⟨k.origins ∘ h.origins, fun hs => by rw [BufferHolds, occupied_of_same k.office k.inHand]; exact h.buffer hs,
    k.queue ∘ h.queue, k.slabs ∘ h.slabs⟩

/-- What goes on at the office port and in the frame in hand leaves the other tables as they are. -/
theorem Keeps.atPort (buffer : BufferHolds u → BufferHolds t) (line : t.line = u.line := by simp)
    (stock : t.stock = u.stock := by simp) (origins : t.handler.origins = u.handler.origins := by simp) : Keeps s t :=
  ⟨fun hs => by rw [TableStaysReachable, origins]; exact h.origins hs, buffer ∘ h.buffer,
    fun hs => by rw [QueueHolds, line]; exact h.queue hs, fun hs => by rw [stock]; exact h.slabs hs⟩

theorem Keeps.finish : Keeps s u.finish := by
  have granted := h.within (.grant (.rfl' u))
  refine granted.atPort (fun hu => ?_) (outputStart_line _) (outputStart_frame _).stock ?_
  · rw [BufferHolds, State.finish, outputStart_occupied]
    exact hu
  · rw [State.finish, (outputStart_frame _).handler]

/-- What earlier steps left due is taken one after another, the arbiters moving on after each (log entry 2). -/
theorem Keeps.settle : Keeps s u.settle :=
  settle_keeps (P := Keeps s) (fun v _ hv due => (hv.within (.takeDue (.rfl' v) due)).finish) u h

theorem Keeps.takeOneReport (r : LineReport) : Keeps s (u.takeOneReport r) := by
  unfold State.takeOneReport
  split
  · refine (h.within (Within.takeReport (Within.setLine (.rfl' u) _ ?_) r)).finish
    rfl
  · exact h

/-! ### The office port and the frame in hand (R148 to R154) -/

theorem Keeps.frameBegins : Keeps s u.frameBegins := by
  refine h.atPort BufferHolds.frameBegins ?_ ?_ ?_ <;> unfold State.frameBegins <;> split <;> rfl

theorem Keeps.headerArrives (header : List Byte) : Keeps s (u.headerArrives header) := by
  refine h.atPort (fun hu => hu.headerArrives header) ?_ ?_ ?_ <;> unfold State.headerArrives <;> (repeat' split) <;> rfl

theorem Keeps.frameArrives (rest : List Byte) : Keeps s (u.frameArrives rest) := by
  refine h.atPort (fun hu => hu.frameArrives rest) ?_ ?_ ?_ <;> unfold State.frameArrives <;> dsimp only <;>
    (repeat' split) <;> rfl

theorem Keeps.silence : Keeps s (u.setReceiver .hunting) :=
  h.atPort (fun hu => hu.setReceiver (Nat.zero_le _)) rfl rfl rfl

theorem Keeps.frameSent : Keeps s (u.setOffice { u.office with sending := none }) := h.atPort BufferHolds.frameSent

theorem Keeps.takeFrame : Keeps s u.takeFrame := by
  refine h.atPort (fun hu => by rw [BufferHolds, takeFrame_occupied]; exact hu) ?_ ?_ ?_ <;>
    unfold State.takeFrame State.endFrame <;> dsimp only <;> (repeat' split) <;> rfl

theorem Keeps.answerItem (inHand : u.handler.inHand.isSome = true) (f : InHand) (rest : List RawItem) (r : Result) :
    Keeps s (u.answerItem f rest r) := by
  obtain ⟨-, -, -, stock, -, -, -, -, -, line, -, -, -, -, origins, -⟩ := answerItem_same u f rest r
  exact h.atPort (fun hu => by rw [BufferHolds, answerItem_occupied inHand]; exact hu) line stock origins

theorem Keeps.refuseBadItem : Keeps s u.refuseBadItem := by
  unfold State.refuseBadItem
  split
  · exact h
  next f inHand =>
    split
    · exact h
    · split
      · exact h.answerItem (by rw [inHand]; rfl) _ _ _
      · exact h

/-! ### Items (R151, R153) -/

/-- What its owner keeps, an item keeps; one that is denied or refused leaves the tables as they are. -/
theorem Keeps.takeItem {f : InHand} (inHand : u.handler.inHand = some f) (rest : List RawItem) {area : Area}
    {owner : Origin → State → Owned} (owned : ∀ o, u.origin? o.number = some o → (owner o u).within u) :
    Keeps s (u.takeItem f rest area owner) := by
  have refused : ∀ r, Keeps s (u.answerItem f rest r) := h.answerItem (by rw [inHand]; rfl) f rest
  unfold State.takeItem
  split
  · exact refused _
  next o found =>
    split
    · have left := owned o (by rw [origin_key found]; exact found)
      cases answer : owner o u with
      | taken code data t =>
        rw [answer] at left
        obtain ⟨-, within⟩ := left
        exact (h.within within).answerItem (by rw [within.inHand, inHand]; rfl) _ _ _
      | refused code => exact refused _
    · exact refused _

theorem Keeps.item {i : Instr} {area : Area} (item : IsItem i area) (hx : exec i u = .next t) : Keeps s t := by
  obtain ⟨owner, step, owned⟩ := item
  cases (step u).symm.trans hx
  have settled := h.settle
  refine Keeps.finish ?_
  split
  · exact settled
  next f inHand =>
    split
    · exact settled
    · split
      · exact settled.takeItem inHand _ (owned _)
      · exact settled

end Steps

/-! ### Every command -/

theorem Keeps.next {s t u : State} (e : (Host.Outcome.next u : Host.Outcome State Fault Refusal) = .next t)
    (h : Keeps s u) : Keeps s t := by
  cases e; exact h

/-- POWER_ON brings every table back to a state within its rules (R1, R136, R148, R152). -/
theorem keeps_poweredOn (s : State) : Keeps s s.poweredOn := by
  obtain ⟨-, -, origins, -, buffer, slabs, queue⟩ := resetMeetsEveryCondition
  exact ⟨fun _ => origins, fun _ => buffer, fun _ => queue, fun _ => slabs⟩

/-- A command that is an event keeps the tables within their rules: what it finds due is taken first, and the arbiters move
on behind it. -/
theorem exec_event_keeps {s t : State} {i : Instr} (event : areaOf i = none) (hx : exec i s = .next t) : Keeps s t := by
  have here : Keeps s s := .rfl' s
  have settled := here.settle
  have within := Within.rfl' s.settle
  cases i with
  | powerOn => exact .next hx (keeps_poweredOn s)
  | timeBaseSecond => exact .next hx (settled.within (within.of_same rfl rfl rfl rfl))
  | cutTimeout id =>
    refine .next hx ?_
    split
    · exact (here.within (.timeOutId (.rfl' s) id)).finish
    · exact here
  | channelEntersStale n =>
    refine .next hx ?_
    split
    · exact (here.within (.staleId (.setWater (.rfl' s) _) n)).finish
    · exact here
  | scanPassDue =>
    refine .next hx ?_
    split
    · exact (here.within (.startDuePass (.rfl' s))).finish
    · exact here
  | readerPollDue _ =>
    refine .next hx ?_
    split
    · exact here.finish
    · exact here
  | startFailure _ _ | abortFailure _ | cutterUnreachable _ => exact .next hx (here.takeOneReport _)
  | officeFrameBegin => exact .next hx settled.frameBegins.finish
  | officeHeaderArrived header => exact .next hx (settled.headerArrives header).finish
  | officeFrameArrived rest => exact .next hx (settled.frameArrives rest).finish
  | officeLinkSilence => exact .next hx settled.silence.finish
  | frameSent => exact .next hx settled.frameSent.finish
  | takeFrame => exact .next hx settled.takeFrame.finish
  | badItem => exact .next hx settled.refuseBadItem.finish
  | floorFrameBegin => exact .next hx (settled.within within.floorFrameBegins).finish
  | floorFrameSent => exact .next hx (settled.within within.floorFrameGone).finish
  | responseWindowExpired => exact .next hx (settled.within within.windowExpires).finish
  | floorLineSilence | badFloorFrame => exact .next hx (settled.within within.badFrame).finish
  | floorAck _ =>
    refine .next hx (settled.within (within.goodFrame (fun t v hv => hv.txAcked t) fun r v hv => ?_)).finish
    split
    · exact hv.slotAcked r
    · exact hv.slotOther r _
  | floorNak _ | noneAnswer _ =>
    exact .next hx (settled.within (within.goodFrame (fun t v hv => hv.txNothing t) fun r v hv =>
      hv.slotOther r _)).finish
  | completionAnswer _ _ _ _ _ _ _ _ _ _ =>
    exact .next hx (settled.within (within.goodFrame
      (fun t v hv => hv.answered t _ fun w hw => hw.passCompletion _ _) fun r v hv => hv.slotOther r _)).finish
  | scanAnswer _ _ _ _ _ _ _ =>
    exact .next hx (settled.within (within.goodFrame
      (fun t v hv => hv.answered t _ fun w hw => hw.passScan _ _) fun r v hv => hv.slotOther r _)).finish
  | valueAnswer _ _ _ _ =>
    exact .next hx (settled.within (within.goodFrame
      (fun t v hv => hv.answered t _ fun w hw => hw) fun r v hv => hv.slotOther r _)).finish
  | _ => cases event

theorem exec_keeps {s t : State} {i : Instr} (hx : exec i s = .next t) : Keeps s t := by
  cases area : areaOf i with
  | none => exact exec_event_keeps area hx
  | some a => exact (Keeps.rfl' s).item (isItem_of_areaOf area) hx

/-- A step runs the command at the front, and with an empty queue changes nothing. -/
theorem step_keeps {s t : State} (hs : step s = .next t) : Keeps s t := by
  unfold step at hs
  split at hs
  next => exact .next hs (.rfl' s)
  next c rest _ =>
    obtain ⟨origins, buffer, queue, slabs⟩ := exec_keeps hs
    exact ⟨origins, buffer, queue, slabs⟩

/-- Settles O57: only ORIGIN, its removal and the context items write the origin table; the first two leave an origin that
can send TABLE items, and a context takes no class and no area away. -/
theorem tableKeptReachable : Obligations.TableKeptReachable := fun _ _ h hs => (step_keeps hs).origins h

/-- Settles O59: a slot is taken while one is free and handed on from place to place; a command joins the queue while there
is room; and a slab record is written where one stands or where there is room. -/
theorem tablesStayWithinTheirPlaces : Obligations.TablesStayWithinTheirPlaces := by
  intro s t ⟨buffer, queue, stock⟩ hs
  have keeps := step_keeps hs
  exact ⟨keeps.buffer buffer, keeps.queue queue, keeps.slabs stock⟩

end Sys2Proof.Machine
end

section
/-! PROOFS. Office requests, origins and contexts (spec/08): the office port, the output arbiter, frames begun and denied,
and the items of the request handler. -/

namespace Sys2Proof.Machine

/-! ### The arbiters behind a write at the office port (R134, R160) -/

/-- Behind a command that leaves the floor line and the frame being sent as they are, a link that was busy stays so, and its
arbiter moves nothing. -/
theorem Unchanged.finish_of_sending {but : List Part} {s u : State} (h : Unchanged but s u)
    (sending : u.office.sending = s.office.sending) (floor : Part.floor ∉ but) : Unchanged but s u.finish := by
  have held : s.line.holder ≠ .free → u.line = s.line ∧ u.water.engine = s.water.engine := h .floor floor
  intro p hp
  have before := h p hp
  cases p
  case floor =>
    intro busy
    obtain ⟨line, engine⟩ := held busy
    have busy' : u.line.holder ≠ .free := by rw [line]; exact busy
    rw [finish_line_of_held busy', finish_water_of_held busy']
    exact ⟨line, engine⟩
  case reports =>
    intro busy sends
    have busy' : u.line.holder ≠ .free := by rw [(held busy).1]; exact busy
    rw [finish_of_busy busy' (by rw [sending]; exact sends)]
    exact before busy sends
  all_goals simp_all [Part.same]

/-- A REPLY that joins the others is the last on its way (R160). -/
theorem outgoing_append (o : Office) (bytes : List Byte) :
    outgoing { o with replies := o.replies ++ [bytes] } = outgoing o ++ [bytes] := (List.append_assoc _ _ _).symm

/-! ### The office port receives (R148, R149, R181) -/

/-- The receiver and the received frames of the office port, written. -/
def State.setPort (s : State) (r : Receiver) (received : List Request) : State :=
  s.setOffice { s.office with receiver := r, received := received }

/-- Behind a write of the receiver and the received frames nothing else has changed. -/
theorem setPort_finish (s : State) (r : Receiver) (received : List Request) :
    (s.setPort r received).finish.office.receiver = r ∧ (s.setPort r received).finish.office.received = received ∧
      (s.setPort r received).finish.handler = s.handler ∧
      outgoing (s.setPort r received).finish.office = outgoing s.office ∧
      Unchanged [.port] s (s.setPort r received).finish := by
  have written : Unchanged [.port] s (s.setPort r received) := fun p hp => by
    cases p <;> simp_all [Part.same, State.setPort]
  exact ⟨finish_receiver _, finish_received _, finish_handler _, outgoing_finish _,
    written.finish_of_sending rfl (by decide)⟩

theorem frameBegins_of_hunting {s : State} (h : s.office.receiver = .hunting) :
    s.frameBegins = s.setPort (.header (decide (s.occupied < 4))) s.office.received := by
  unfold State.frameBegins
  rw [h]
  rfl

theorem headerArrives_of_header {s : State} {slot : Bool} {header : List Byte} (h : s.office.receiver = .header slot)
    (whole : header.length = 7) :
    s.headerArrives header =
      s.setPort (if 4096 < headerLength header then .hunting else .body slot header) s.office.received := by
  unfold State.headerArrives
  rw [h]
  dsimp only
  rw [if_pos whole]
  exact (apply_ite s.setReceiver _ _ _).symm

/-- What a whole frame gives: one request when it has a slot and passes every check (R149). -/
def arrivedRequests (slot : Bool) (header rest : List Byte) : List Request :=
  match slot, decodeRequest header rest with
  | true, some (origin, tag, items) => [{ origin := origin, tag := tag, items := items }]
  | _, _ => []

theorem frameArrives_of_body {s : State} {slot : Bool} {header rest : List Byte}
    (h : s.office.receiver = .body slot header) (whole : rest.length = headerLength header + 2) :
    s.frameArrives rest = s.setPort .hunting (s.office.received ++ arrivedRequests slot header rest) := by
  unfold State.frameArrives arrivedRequests
  rw [h]
  dsimp only
  rw [if_pos whole]
  cases slot with
  | false => simp [State.setPort, State.setReceiver]
  | true =>
    cases decodeRequest header rest with
    | none => simp [State.setPort, State.setReceiver]
    | some request => rfl

/-- Settles O8: each event writes the receiver, and the last but one the received frames, behind which the arbiters leave
the rest as it was. -/
theorem officePortReceivesFrames : Obligations.OfficePortReceivesFrames := by
  refine ⟨fun s quiet hunting => ?begins, fun s slot header quiet receiving whole => ?header,
    fun s slot header rest quiet receiving whole => ?arrives, fun s quiet => ?silence⟩
  case begins =>
    refine ⟨_, ?_, setPort_finish s _ _⟩
    rw [← frameBegins_of_hunting hunting]
    show Host.Outcome.next _ = _
    rw [settle_of_quiet quiet]
  case header =>
    refine ⟨_, ?_, setPort_finish s _ _⟩
    rw [← headerArrives_of_header receiving whole]
    show Host.Outcome.next _ = _
    rw [settle_of_quiet quiet]
  case arrives =>
    refine ⟨_, ?_, setPort_finish s .hunting (s.office.received ++ arrivedRequests slot header rest)⟩
    rw [← frameArrives_of_body receiving whole]
    show Host.Outcome.next _ = _
    rw [settle_of_quiet quiet]
  case silence =>
    refine ⟨_, ?_, setPort_finish s .hunting s.office.received⟩
    show Host.Outcome.next _ = _
    rw [settle_of_quiet quiet]
    rfl

/-! ### The output arbiter (R160, R176) -/

theorem outputStart_of_reply {s : State} {r : List Byte} {rs : List (List Byte)} (idle : s.office.sending = none)
    (replies : s.office.replies = r :: rs) :
    s.outputStart = s.setOffice { s.office with sending := some (.reply r), replies := rs } := by
  simp [State.outputStart, idle, replies]

theorem outputStart_of_report {s : State} {q : Report} {qs : List Report} (idle : s.office.sending = none)
    (replies : s.office.replies = []) (reports : s.alarms.reports = q :: qs) :
    s.outputStart = (s.setAlarms { s.alarms with reports := qs }).setOffice
      { s.office with sending := some (.report (reportFrame q)) } := by
  simp [State.outputStart, idle, replies, reports]

theorem outputStart_of_nothing {s : State} (replies : s.office.replies = []) (reports : s.alarms.reports = []) :
    s.outputStart = s := by
  unfold State.outputStart
  rw [replies, reports]
  cases s.office.sending <;> rfl

/-- The office link free, the frame it sent gone (R160). -/
def State.linkFreed (s : State) : State := s.setOffice { s.office with sending := none }

theorem unchanged_linkFreed (s : State) : Unchanged [.reports] s s.linkFreed := fun p hp => by
  cases p <;> simp_all [Part.same, State.linkFreed]

/-- With the floor line held, a frame that has left brings the output arbiter alone. -/
theorem exec_frameSent_of_held {s : State} (quiet : s.quiet = true) (held : s.line.holder ≠ .free) :
    exec .frameSent s = .next s.linkFreed.outputStart := by
  show Host.Outcome.next (s.settle.setOffice { s.settle.office with sending := none }).finish = _
  rw [settle_of_quiet quiet]
  show Host.Outcome.next s.linkFreed.grant.outputStart = _
  rw [grant_of_held (s := s.linkFreed) held]

/-- Settles O9: the three moves of the output arbiter on a free link, and what it leaves alone. -/
theorem outputArbiterChoosesReplyFirst : Obligations.OutputArbiterChoosesReplyFirst := by
  intro s quiet held
  have frame := outputStart_frame s.linkFreed
  refine ⟨_, exec_frameSent_of_held quiet held, fun r rs replies => ?reply, fun q qs replies reports => ?report,
    fun replies reports => ?nothing, frame.handler, ?unchanged⟩
  case reply =>
    rw [outputStart_of_reply (s := s.linkFreed) rfl replies]
    exact ⟨rfl, rfl, rfl⟩
  case report =>
    rw [outputStart_of_report (s := s.linkFreed) rfl replies reports]
    exact ⟨rfl, replies, rfl⟩
  case nothing =>
    rw [outputStart_of_nothing (s := s.linkFreed) replies reports]
    rfl
  case unchanged =>
    have links : Unchanged [.floor, .reports] s s.linkFreed.outputStart :=
      ((unchanged_linkFreed s).mono (by decide)).trans frame.unchanged (by decide)
    intro p hp
    by_cases floor : p = .floor
    · subst floor
      exact fun _ => ⟨outputStart_line _, by rw [outputStart_water]; rfl⟩
    · exact links p (by simp_all)

/-! ### Frames begun, denied and refused (R150, R151, R154) -/

theorem takeFrame_of_defined {s : State} {f : Request} {fs : List Request} (free : s.handler.inHand = none)
    (received : s.office.received = f :: fs) (place : f.origin ≤ 15) (defined : (s.origin? f.origin).isSome = true) :
    s.takeFrame = (s.setPort s.office.receiver fs).setHandler { s.handler with
      inHand := some { origin := f.origin, tag := f.tag, items := f.items, results := [] } } := by
  unfold State.takeFrame
  simp only [free, received]
  exact if_pos ⟨place, defined⟩

theorem takeFrame_of_undefined {s : State} {f : Request} {fs : List Request} (free : s.handler.inHand = none)
    (received : s.office.received = f :: fs) (out : 15 < f.origin ∨ s.origin? f.origin = none) :
    s.takeFrame = (s.setPort s.office.receiver fs).endFrame f.origin f.tag (f.items.map fun _ => ⟨.denied, []⟩) := by
  have barred : ¬(f.origin ≤ 15 ∧ (s.origin? f.origin).isSome = true) := by
    rintro ⟨place, defined⟩
    rcases out with out | out
    · omega
    · simp [out] at defined
  unfold State.takeFrame
  simp only [free, received]
  exact if_neg barred

theorem unchanged_takeFrame (s : State) : Unchanged [.port] s s.takeFrame := by
  unfold State.takeFrame
  split
  · dsimp only
    split <;> intro p hp <;> cases p <;> simp_all [Part.same, State.endFrame]
  · exact .rfl' s

theorem takeFrame_sending (s : State) : s.takeFrame.office.sending = s.office.sending := by
  unfold State.takeFrame
  split
  · dsimp only
    split <;> rfl
  · rfl

theorem takeFrame_port {s : State} {f : Request} {fs : List Request} (free : s.handler.inHand = none)
    (received : s.office.received = f :: fs) :
    s.takeFrame.office.received = fs ∧ s.takeFrame.office.receiver = s.office.receiver := by
  unfold State.takeFrame
  simp only [free, received]
  split <;> exact ⟨rfl, rfl⟩

theorem refuseBadItem_of_unreadable {s : State} {h : InHand} {raw : RawItem} {rest : List RawItem}
    (inHand : s.handler.inHand = some h) (items : h.items = raw :: rest) (unreadable : decodeItem raw = none) :
    s.refuseBadItem = s.answerItem h rest ⟨.badItem, []⟩ := by
  simp [State.refuseBadItem, inHand, items, unreadable]

/-- An answer written on the state as it stands, and nothing else. -/
theorem replied_here (s : State) (h : InHand) (rest : List RawItem) (c : ResultCode) (d : List Byte) :
    Answered s (replied s h rest c d) h rest ⟨c, d⟩ ∧ Unchanged [] s (replied s h rest c d) :=
  ⟨answered_replied rfl, unchanged_replied (.rfl' s) rfl (.inl List.not_mem_nil)⟩

/-- Settles O10: a frame taken goes in hand or its REPLY joins the others; an item that spells nothing is answered where it
stands. -/
theorem framesAreBegunDeniedOrRefused : Obligations.FramesAreBegunDeniedOrRefused := by
  refine ⟨fun s f fs quiet free received => ?taken, fun s h raw rest quiet inHand items unreadable => ?refused⟩
  case taken =>
    have step : exec .takeFrame s = .next s.takeFrame.finish := by
      show Host.Outcome.next s.settle.takeFrame.finish = _
      rw [settle_of_quiet quiet]
    obtain ⟨left, receiver⟩ := takeFrame_port free received
    refine ⟨_, step, by rw [finish_received, left], by rw [finish_receiver, receiver], fun place defined => ?begun,
      fun out => ?denied, (unchanged_takeFrame s).finish_of_sending (takeFrame_sending s) (by decide)⟩
    case begun =>
      rw [finish_handler, outgoing_finish, takeFrame_of_defined free received place defined]
      exact ⟨rfl, rfl⟩
    case denied =>
      rw [finish_handler, outgoing_finish, takeFrame_of_undefined free received out]
      exact ⟨rfl, outgoing_append _ _⟩
  case refused =>
    refine ⟨_, ?_, replied_here s h rest .badItem []⟩
    show Host.Outcome.next s.settle.refuseBadItem.finish = _
    rw [settle_of_quiet quiet, refuseBadItem_of_unreadable inHand items unreadable]
    rfl

/-! ### Every item (R151, R153, R158, R166) -/

/-- Settles O11: an item goes to no owner where its origin is undefined or may not send its area. -/
theorem deniedItemChangesNothing : Obligations.DeniedItemChangesNothing := by
  intro i a s h rest item quiet inHand next behind barred
  obtain ⟨owner, step, -⟩ := isItem_of_areaOf item
  refine ⟨_, ?_, replied_here s h rest .denied []⟩
  rw [step, ← behind]
  cases found : s.origin? h.origin with
  | none => rw [itemStep_undefined a owner quiet inHand next found]; rfl
  | some o =>
    rw [itemStep_standing a owner quiet inHand next found, barred o found]
    rfl

/-- An item that stands next and may be sent is taken or refused by its owner: taken with OK or HELD, and refused without
data and without a change. -/
theorem exec_of_ready {s : State} {i : Instr} {a : Area} {h : InHand} {rest : List RawItem} {o : Origin}
    (item : areaOf i = some a) (ready : Ready s i a h rest o) :
    ∃ t r, exec i s = .next t ∧ Answered s t h rest r ∧ (r.code.isTaken = false → r.data = [] ∧ Unchanged [] s t) := by
  obtain ⟨owner, step, owned⟩ := isItem_of_areaOf item
  obtain ⟨⟨-, -, -, -, found⟩, -⟩ := id ready
  have answer := owned s o (by rw [origin_key found]; exact found)
  cases decided : owner o s with
  | taken code data t =>
    rw [decided] at answer
    obtain ⟨taken, within⟩ := answer
    exact ⟨_, ⟨code, data⟩, exec_of_taken (step s) ready decided, answered_replied within.office, fun refused =>
      absurd (refused.symm.trans taken) Bool.false_ne_true⟩
  | refused code =>
    obtain ⟨answered, unchanged⟩ := itemStep_refuses ready decided
    exact ⟨_, ⟨code, []⟩, step s, answered, fun _ => ⟨rfl, unchanged⟩⟩

/-- Settles O12: the first part is what every owner does, the second the answers of the READ items. -/
theorem everyItemIsAnsweredOnceWhole : Obligations.EveryItemIsAnsweredOnceWhole := by
  refine ⟨fun i a s h rest o item ready => exec_of_ready item ready, fun s h rest o => ?_⟩
  obtain ⟨slab, plan, cutter, channel, job, roster, water, alarms⟩ := readsReturnTheirRecords s h rest o
  have taken : ∀ {i : Instr} {d : List Byte}, exec i s = .next (replied s h rest .ok d) →
      ∃ t d, exec i s = .next t ∧ Answered s t h rest ⟨.ok, d⟩ ∧ Unchanged [] s t :=
    fun {_ d} step => ⟨_, d, step, replied_here s h rest .ok d⟩
  refine ⟨fun x id ready named range stands => ?slab, fun x id ready named range stands planned => ?plan,
    fun x n ready named range stands => ?cutter, fun n ready range stands => ?channel,
    fun x n ready named range => taken (job x n ready named range), fun ready => taken (roster ready),
    fun ready => taken (water ready), fun ready => taken (alarms ready)⟩
  case slab =>
    obtain ⟨sl, found⟩ := Option.isSome_iff_exists.1 stands
    exact taken (slab x id sl ready named range found)
  case plan =>
    obtain ⟨sl, found⟩ := Option.isSome_iff_exists.1 stands
    obtain ⟨p, loaded⟩ := Option.isSome_iff_exists.1 planned
    exact taken (plan x id sl p ready named range found loaded)
  case cutter =>
    obtain ⟨c, found⟩ := Option.isSome_iff_exists.1 stands
    exact taken (cutter x n c ready named range found)
  case channel =>
    obtain ⟨ch, found⟩ := Option.isSome_iff_exists.1 stands
    exact taken (channel n ch ready range found)


/-! ### The request contexts (R156, R157) -/

/-- An answer written behind a write of the handler alone: the origin table and the open level may have changed. -/
theorem replied_setHandler (s : State) (x : Handler) (h : InHand) (rest : List RawItem) (c : ResultCode) (d : List Byte) :
    Answered s (replied (s.setHandler x) h rest c d) h rest ⟨c, d⟩ ∧
      Unchanged [.origins] s (replied (s.setHandler x) h rest c d) := by
  have written : Unchanged [.origins] s (s.setHandler x) := fun p hp => by cases p <;> simp_all [Part.same]
  exact ⟨answered_replied rfl, unchanged_replied written rfl (.inl (by decide))⟩

/-- A refused item: its code is the answer, and nothing else has changed. -/
theorem exec_refused_here {s : State} {i : Instr} {a : Area} {h : InHand} {rest : List RawItem} {o : Origin}
    {code : ResultCode} {owner : Origin → State → Owned} (item : exec i s = .next (s.itemStep i a owner))
    (ready : Ready s i a h rest o) (refused : owner o s = .refused code) :
    ∃ t, exec i s = .next t ∧ Answered s t h rest ⟨code, []⟩ ∧ Unchanged [] s t :=
  ⟨_, item, itemStep_refuses ready refused⟩

/-- An item whose owner puts a record into the origin table: that place alone has changed. -/
theorem exec_putOrigin {s : State} {i : Instr} {a : Area} {h : InHand} {rest : List RawItem} {o r : Origin}
    {data : List Byte} {owner : Origin → State → Owned} (item : exec i s = .next (s.itemStep i a owner))
    (ready : Ready s i a h rest o) (puts : owner o s = .okWith data (s.putOrigin r)) :
    ∃ t, exec i s = .next t ∧ t.origin? r.number = some r ∧ (∀ m, m ≠ r.number → t.origin? m = s.origin? m) ∧
      Answered s t h rest ⟨.ok, data⟩ ∧ Unchanged [.origins] s t ∧ t.handler.openLevel = s.handler.openLevel := by
  obtain ⟨answered, unchanged⟩ := replied_setHandler s
    { s.handler with origins := put Origin.number r s.handler.origins } h rest .ok data
  refine ⟨_, exec_of_taken (t := s.putOrigin r) item ready puts, ?_, fun m other => ?_, answered, unchanged,
    replied_openLevel _ _ _ _ _⟩
  · rw [replied_origin?, origin_putOrigin, if_pos rfl]
  · rw [replied_origin?, origin_putOrigin, if_neg (Ne.symm other)]

/-- A number outside its range, given, is not in range (R156). -/
theorem not_inRange_of_any {range out : Nat → Bool} {n : Option Nat} (outside : ∀ k, out k = true → range k = false)
    (given : n.any out = true) : ¬inRange range n = true := by
  cases n with
  | none => exact absurd given Bool.false_ne_true
  | some k => exact Bool.eq_false_iff.1 (outside k given)

/-- Settles O14: a number in range, or none, is set; one out of its range is refused. -/
theorem useItemsSetOneContextField : Obligations.UseItemsSetOneContextField := by
  intro s h rest o n
  refine ⟨fun ready range => ?job, fun ready range => ?cutter, fun ready range => ?slab, fun ready out => ?jobOut,
    fun ready out => ?cutterOut, fun ready out => ?slabOut⟩
  case job => exact exec_putOrigin rfl ready (if_pos range)
  case cutter => exact exec_putOrigin rfl ready (if_pos range)
  case slab => exact exec_putOrigin rfl ready (if_pos range)
  case jobOut => exact exec_refused_here rfl ready (if_neg (not_inRange_of_any (by simp [jobRange]) out))
  case cutterOut => exact exec_refused_here rfl ready (if_neg (not_inRange_of_any (by simp [cutterRange]; omega) out))
  case slabOut => exact exec_refused_here rfl ready (if_neg (not_inRange_of_any (by simp [slabRange]; omega) out))

/-- Settles O15: the context set is the empty one, whose three fields are absent. -/
theorem contextClearForgetsTheContext : Obligations.ContextClearForgetsTheContext :=
  fun _ _ _ _ ready => exec_putOrigin rfl ready rfl

/-! ### The origin table and the open level (R161, R162, R163) -/

theorem originAfter_eq (s : State) (n c a : Nat) :
    s.originAfter n c a = { number := n, cls := c, areas := BitVec.ofNat 8 a,
                            ctx := ((s.origin? n).map Origin.ctx).getD ⟨none, none, none⟩ } := by
  unfold State.originAfter
  cases found : s.origin? n with
  | none => rfl
  | some o =>
    obtain rfl := origin_key found
    rfl

/-- An ORIGIN in range answers by whether the table it would leave keeps an origin that can send TABLE items. -/
theorem originItem_of_range {s : State} {n c a : Nat} (place : n ≤ 15) (cls : c ≤ 3) (o : Origin) :
    originItem n c a o s = ensure (keepsTable (put Origin.number (s.originAfter n c a) s.handler.origins)) .wrongState
      (.okWith (s.originAfter n c a).bytes (s.putOrigin (s.originAfter n c a))) :=
  if_pos (by simp [place, cls])

/-- Settles O16: each item is its own write of the handler, made when an origin with TABLE remains. -/
theorem originItemsRewriteTheTable : Obligations.OriginItemsRewriteTheTable := by
  intro s h rest o
  refine ⟨fun n c a ready place cls => ?origin, fun n ready place stands keeps => ?remove,
    fun l ready range => ?openLevel⟩
  case origin =>
    intro r
    have record : s.originAfter n c a = r := originAfter_eq s n c a
    have answer := originItem_of_range (s := s) (a := a) place cls o
    rw [record] at answer
    refine ⟨fun keeps => ?_, fun keeps => ?_⟩
    · obtain ⟨t, step, here, others, answered, unchanged, level⟩ := exec_putOrigin rfl ready (answer.trans (if_pos keeps))
      exact ⟨t, step, here, others, level, answered, unchanged⟩
    · exact exec_refused_here rfl ready (answer.trans (if_neg (by simp [keeps])))
  case remove =>
    obtain ⟨x, found⟩ := Option.isSome_iff_exists.1 stands
    have taken : originRemoveItem n o s =
        .ok (s.setHandler { s.handler with origins := remove Origin.number n s.handler.origins }) := by
      simp [originRemoveItem, place, found, keeps]
    obtain ⟨answered, unchanged⟩ := replied_setHandler s
      { s.handler with origins := remove Origin.number n s.handler.origins } h rest .ok []
    refine ⟨_, exec_of_taken rfl ready taken, ?_, fun m other => ?_, replied_openLevel _ _ _ _ _, answered, unchanged⟩
    · rw [replied_origin?]
      exact lookup_remove_self Origin.number n s.handler.origins
    · rw [replied_origin?]
      exact lookup_remove_other Origin.number s.handler.origins (Ne.symm other)
  case openLevel =>
    obtain ⟨answered, unchanged⟩ := replied_setHandler s { s.handler with openLevel := l } h rest .ok []
    have taken : openLevelItem l o s = .ok (s.setHandler { s.handler with openLevel := l }) :=
      if_pos (decide_eq_true range)
    exact ⟨_, exec_of_taken rfl ready taken, replied_openLevel _ _ _ _ _, replied_origins _ _ _ _ _,
      answered, unchanged⟩

end Sys2Proof.Machine
end

section
/-! PROOFS. Alarms and reports (spec/09): what the alarm unit can do, one move at a time. -/

namespace Sys2Proof.Machine

/-! ### The alarm unit's tables (R167, R169, R176) -/

/-- The alarm unit's own part of `AlarmTablesHold`: both tables within their places, no kind and subject twice, every entry
at its kind's priority, and the 16 kinds in the action table. -/
structure Alarms.Sound (a : Alarms) : Prop where
  places : a.entries.length ≤ 48
  queue : a.reports.length ≤ 64
  distinct : a.entries.Pairwise fun e f => ¬(e.kind = f.kind ∧ e.subject = f.subject)
  priorities : ∀ e ∈ a.entries, e.priority = (a.entryOf e.kind).priority
  kinds : a.actions.map ActionEntry.kind = AlarmKind.all

theorem alarmTablesHold_iff {s : State} : AlarmTablesHold s ↔ s.alarms.Sound :=
  ⟨fun ⟨places, queue, distinct, priorities, kinds⟩ => ⟨places, queue, distinct, priorities, kinds⟩,
    fun ⟨places, queue, distinct, priorities, kinds⟩ => ⟨places, queue, distinct, priorities, kinds⟩⟩

theorem isOf_iff {k : AlarmKind} {n : Nat} {e : AlarmEntry} : e.isOf k n = true ↔ e.kind = k ∧ e.subject = n := by
  simp [AlarmEntry.isOf]

/-- The entry that a raise creates (R170). -/
def Alarms.fresh (a : Alarms) (k : AlarmKind) (n now : Nat) : AlarmEntry :=
  { kind := k, subject := n, priority := (a.entryOf k).priority, count := 1, first := now, last := now }

section Entries

variable {a : Alarms} (h : a.Sound)
include h

/-- Another pending table, with the entries still apart and at their kinds' priorities. -/
theorem Alarms.Sound.setEntries {l : List AlarmEntry} (places : l.length ≤ 48)
    (distinct : l.Pairwise fun e f => ¬(e.kind = f.kind ∧ e.subject = f.subject))
    (priorities : ∀ e ∈ l, e.priority = (a.entryOf e.kind).priority) : Alarms.Sound { a with entries := l } :=
  ⟨places, h.queue, distinct, priorities, h.kinds⟩

theorem Alarms.Sound.filter (p : AlarmEntry → Bool) : Alarms.Sound { a with entries := a.entries.filter p } :=
  h.setEntries (Nat.le_trans (List.length_filter_le p _) h.places) (h.distinct.filter p) fun e he =>
    h.priorities e (List.mem_filter.1 he).1

/-- A repeat changes counts and times alone (R170 case 1). -/
theorem Alarms.Sound.repeated (k : AlarmKind) (n now : Nat) :
    Alarms.Sound { a with entries := a.entries.map fun f => if f.isOf k n then f.repeated now else f } := by
  refine h.setEntries (by rw [List.length_map]; exact h.places) (List.pairwise_map.2 (h.distinct.imp ?_)) ?_
  · intro e f apart
    split <;> split <;> exact apart
  · intro e he
    obtain ⟨f, hf, rfl⟩ := List.mem_map.1 he
    split <;> exact h.priorities f hf

/-- A new entry of a kind and subject that none has joins the end where there is room (R170 case 2). -/
theorem Alarms.Sound.append {k : AlarmKind} {n : Nat} (room : a.entries.length < 48)
    (new : ∀ e ∈ a.entries, ¬(e.kind = k ∧ e.subject = n)) (now : Nat) :
    Alarms.Sound { a with entries := a.entries ++ [a.fresh k n now] } := by
  refine h.setEntries (by rw [List.length_append]; exact room) (List.pairwise_append.2 ⟨h.distinct, ?_, ?_⟩) ?_
  · exact List.pairwise_singleton _ _
  · intro e he f hf
    obtain rfl := List.mem_singleton.1 hf
    exact new e he
  · intro e he
    rcases List.mem_append.1 he with he | he
    · exact h.priorities e he
    · obtain rfl := List.mem_singleton.1 he
      rfl

/-- Whatever case a raise is, the table stays within its rules: the displaced entry makes the room for the new one (R170). -/
theorem Alarms.Sound.raised (k : AlarmKind) (n now : Nat) :
    Alarms.Sound { a with entries := (a.raised k n now).1 } := by
  unfold Alarms.raised
  dsimp only
  split
  · exact h.repeated k n now
  next none =>
    have new : ∀ e ∈ a.entries, ¬(e.kind = k ∧ e.subject = n) := fun e he same =>
      List.find?_eq_none.1 none e he (isOf_iff.2 same)
    split
    next room => exact h.append room new now
    next =>
      split
      next d lowest =>
        have mem : d ∈ a.entries := (List.mem_filter.1 (lowestOldest_mem lowest)).1
        have shorter : (a.entries.filter fun e => !e.isOf d.kind d.subject).length < a.entries.length :=
          List.length_filter_lt_length_iff_exists.2 ⟨d, mem, by simp [AlarmEntry.isOf]⟩
        exact (h.filter _).append (Nat.lt_of_lt_of_le shorter h.places)
          (fun e he => new e (List.mem_filter.1 he).1) now
      next => exact h

/-- The kind's entry after an ALARM ACTION (R172). -/
theorem Alarms.Sound.entryOf_reacted (k : AlarmKind) (p : Nat) (x : AlarmAction) (j : AlarmKind) :
    ((a.reacted k p x).entryOf j).priority = if j = k then p else (a.entryOf j).priority := by
  have known : j ∈ a.actions.map ActionEntry.kind := by
    rw [h.kinds]
    cases j <;> decide
  obtain ⟨found, hf⟩ : ∃ e, a.actions.find? (fun e => e.kind == j) = some e := by
    obtain ⟨e, he, kind⟩ := List.mem_map.1 known
    exact Option.isSome_iff_exists.1 (List.find?_isSome.2 ⟨e, he, by simpa using kind⟩)
  have kind : found.kind = j := by simpa using List.find?_some hf
  have same : ((fun e : ActionEntry => e.kind == j) ∘ fun e : ActionEntry =>
      if e.kind = k then { e with priority := p, action := x } else e) = fun e => e.kind == j := by
    funext e
    simp only [Function.comp_apply]
    split <;> rfl
  simp only [Alarms.entryOf, Alarms.reacted, List.find?_map, same, hf, Option.map_some, Option.getD_some, kind]
  split <;> rfl

/-- ALARM ACTION moves the priority of the kind and of its entries together (R172). -/
theorem Alarms.Sound.reacted (k : AlarmKind) (p : Nat) (x : AlarmAction) : (a.reacted k p x).Sound where
  places := by simpa [Alarms.reacted] using h.places
  queue := h.queue
  distinct := List.pairwise_map.2 (h.distinct.imp fun {e f} apart => by split <;> split <;> exact apart)
  priorities := by
    intro e he
    obtain ⟨f, hf, rfl⟩ := List.mem_map.1 he
    rw [h.entryOf_reacted]
    split
    · rfl
    · exact h.priorities f hf
  kinds := by
    rw [← h.kinds]
    simp only [Alarms.reacted, List.map_map]
    refine List.map_congr_left fun e _ => ?_
    simp only [Function.comp_apply]
    split <;> rfl

end Entries

/-! ### The moves of the alarm unit -/

/-- All that happens at the alarm unit: a report joins the queue or is lost (R178), the head report leaves (R176), an alarm
is raised (R170), ALARM ACTION and TAKE ALARM rewrite the tables (R172, R173), and POWER_ON. -/
inductive AlarmMove (a : Alarms) : Alarms → Prop
  | joins (r : Report) (room : a.reports.length < 64) :
    AlarmMove a { a with reports := a.reports ++ [r], gapNoted := false }
  | lost : AlarmMove a { a with gapNoted := true }
  | leaves : AlarmMove a { a with reports := a.reports.tail }
  | raised (k : AlarmKind) (n now : Nat) : AlarmMove a { a with entries := (a.raised k n now).1 }
  | reacted (k : AlarmKind) (p : Nat) (x : AlarmAction) : AlarmMove a (a.reacted k p x)
  | taken (e : AlarmEntry) : AlarmMove a { a with entries := a.entries.filter fun f => !f.isOf e.kind e.subject }
  | poweredOn : AlarmMove a State.reset.alarms

theorem Alarms.Sound.move {a b : Alarms} (h : a.Sound) (m : AlarmMove a b) : b.Sound := by
  cases m with
  | joins r room => exact ⟨h.places, by rw [List.length_append]; exact room, h.distinct, h.priorities, h.kinds⟩
  | lost => exact ⟨h.places, h.queue, h.distinct, h.priorities, h.kinds⟩
  | leaves =>
    exact ⟨h.places, Nat.le_trans (by rw [List.length_tail]; exact Nat.sub_le _ _) h.queue, h.distinct, h.priorities,
      h.kinds⟩
  | raised k n now => exact h.raised k n now
  | reacted k p x => exact h.reacted k p x
  | taken e => exact h.filter _
  | poweredOn => exact alarmTablesHold_iff.1 alarmTablesHold_reset

/-- A chain of moves of the alarm unit. -/
inductive AlarmPath (a : Alarms) : Alarms → Prop
  | refl : AlarmPath a a
  | step {b c : Alarms} (path : AlarmPath a b) (move : AlarmMove b c) : AlarmPath a c

/-- The rules that the tables stood within, they stand within after any moves. -/
theorem Alarms.Sound.path {a b : Alarms} (sound : a.Sound) (p : AlarmPath a b) : b.Sound := by
  induction p with
  | refl => exact sound
  | step _ move ih => exact ih.move move

/-- From `a` the alarm unit has come to where it stands in `s`, by moves of its own. -/
def Reaches (a : Alarms) (s : State) : Prop := AlarmPath a s.alarms

theorem Reaches.rfl' (s : State) : Reaches s.alarms s := AlarmPath.refl

end Sys2Proof.Machine
end

section
/-! PROOFS. Every step takes the alarm unit along its moves, so it keeps the alarm tables and the report queue within their
rules (R167, R169, R172, R176). -/

namespace Sys2Proof.Machine

/-! ### Moves, reports and raises (R117, R170, R178) -/

section Raises

variable {a : Alarms} {s t : State} (h : Reaches a s)
include h

theorem Reaches.move (m : AlarmMove s.alarms t.alarms) : Reaches a t := AlarmPath.step h m

/-- An operation of other blocks. -/
theorem Reaches.of_same (alarms : t.alarms = s.alarms := by simp) : Reaches a t := by
  rw [Reaches, alarms]
  exact h

theorem Reaches.setStock (x : Stock) : Reaches a (s.setStock x) := h
theorem Reaches.setCutting (x : Cutting) : Reaches a (s.setCutting x) := h
theorem Reaches.setCost (x : Cost) : Reaches a (s.setCost x) := h
theorem Reaches.setWater (x : Water) : Reaches a (s.setWater x) := h
theorem Reaches.setGate (x : Gate) : Reaches a (s.setGate x) := h
theorem Reaches.setLine (x : LinePort) : Reaches a (s.setLine x) := h

/-- Both ways of a conditional. -/
theorem Reaches.ite (p : Prop) [Decidable p] (k : Reaches a t) : Reaches a (if p then s else t) := by
  split
  · exact h
  · exact k

theorem Reaches.queueReport (b : ReportBody) : Reaches a (s.queueReport b) := by
  unfold State.queueReport
  split
  next room => exact h.move (.joins _ room)
  next => exact h.move .lost

theorem Reaches.stockReport (e : StockEvent) (id : Nat) : Reaches a (s.stockReport e id) := h.queueReport _

theorem Reaches.recomputeHold : Reaches a s.recomputeHold := by
  have ordered : ∀ g k, Reaches a ((s.setGate g).orderBroadcast k) := fun g k => (h.setGate g).of_same
  exact h.ite _ ((ordered _ _).queueReport _)

theorem Reaches.raise (k : AlarmKind) (n : Nat) : Reaches a (s.raise k n) := by
  have entered : Reaches a (s.entered k n) :=
    (h.move (t := s.setAlarms { s.alarms with entries := (s.alarms.raised k n s.seconds).1 })
      (.raised k n s.seconds)).queueReport _
  rw [raise_eq]
  exact (entered.setGate _).recomputeHold.ite _ entered

/-- Any one alarm that is raised under a condition. -/
theorem Reaches.raiseIf (p : Prop) [Decidable p] (k : AlarmKind) (n : Nat) : Reaches a (if p then s.raise k n else s) :=
  (h.raise k n).ite p h

/-! ### Records that end (R57, R61, R63, R125) -/

theorem Reaches.changeCutter (n : Nat) (f : Cutter → Cutter) : Reaches a (s.changeCutter n f) := h.of_same

theorem Reaches.faultCutter (n : Nat) : Reaches a (s.faultCutter n) := h.changeCutter _ _

theorem Reaches.finishRecord (r : CutRecord) (u : Option Ending) (p : CutReport) : Reaches a (s.finishRecord r u p) := by
  unfold State.finishRecord
  dsimp only
  generalize gone : State.withdraw _ _ _ = v
  have left : Reaches a v := by
    subst gone
    split <;> exact h
  split <;> exact left.queueReport _

theorem Reaches.endRecord (r : CutRecord) (e : Ending) (b : Bool) : Reaches a (s.endRecord r e b) := by
  refine Reaches.finishRecord ?_ _ _ _
  split <;> exact h.of_same

theorem Reaches.endAll (ids : List Nat) (e : Ending) : Reaches a (s.endAll ids e) :=
  List.foldlRecOn ids _ h fun u hu id _ => by
    split
    · exact hu
    · exact hu.endRecord _ _ _

theorem Reaches.faultSweep (n : Nat) : Reaches a (s.faultSweep n) := h.endAll _ _

theorem Reaches.endWaiting (n : Nat) (e : Ending) : Reaches a (s.endWaiting n e) :=
  List.foldlRecOn (s.slotsOf n) _ h fun u hu id _ => by
    split
    · exact hu
    · exact (hu.endRecord _ _ _).ite _ hu

theorem Reaches.startFailed (n id : Nat) : Reaches a (s.startFailed n id).1 := by
  unfold State.startFailed
  split
  · split
    · exact h.endRecord _ _ _
    · exact h
  · exact h

theorem Reaches.cutterLost (n : Nat) : Reaches a (s.cutterLost n).1 := by
  unfold State.cutterLost
  split
  · exact h
  · exact (h.setCutting _).endAll _ _

theorem Reaches.forward (r : CutRecord) : Reaches a (s.forward r) := by
  have joined : Reaches a ((s.putRecord { r with state := .sent }).enqueue
      { kind := .start r.id, onCutter := r.onCutter, attempts := 0, body := startBody r, orphan := false }).1 :=
    h.of_same
  unfold State.forward
  dsimp only
  generalize State.enqueue _ _ = result at joined ⊢
  obtain ⟨v, room⟩ := result
  cases room with
  | true => exact joined
  | false => exact joined.startFailed _ _

theorem Reaches.reevaluate : Reaches a s.reevaluate := by
  unfold State.reevaluate
  generalize s.gate.waiting.length = n
  induction n generalizing s with
  | zero => exact h
  | succ n ih =>
    unfold State.walk
    split
    · exact h
    · split
      · exact h
      · exact (ih ((h.setGate _).forward _)).ite _ h

theorem Reaches.reevaluateIf (b : Bool) : Reaches a (s.reevaluateIf b) := h.reevaluate.ite _ h

theorem Reaches.gateNew (r : CutRecord) : Reaches a (s.gateNew r).1 := by
  unfold State.gateNew
  split
  · exact h.forward r
  · exact h

theorem Reaches.timeOut (r : CutRecord) : Reaches a (s.timeOut r) :=
  (((h.endRecord r _ _).faultCutter _).raise _ _).faultSweep _

theorem Reaches.mismatch (c : Cutter) : Reaches a (s.mismatch c) := ((h.raise _ _).faultCutter _).endAll _ _

/-! ### The water gate (R113 to R118, R171) -/

theorem Reaches.recomputeHoldAndWalk : Reaches a s.recomputeHoldAndWalk :=
  h.recomputeHold.reevaluate.ite _ h.recomputeHold

theorem Reaches.evaluateLatch (test : Bool) : Reaches a (s.evaluateLatch test) := by
  have set : Reaches a s.setLatch := h.ite _ ((h.setGate _).raise _ _)
  exact (set.ite _ ((h.setGate _).ite _ h)).recomputeHold

theorem Reaches.waterItem : Reaches a s.waterItem := (h.evaluateLatch _).reevaluate

theorem Reaches.setRoles (l t r m : Option Nat) : Reaches a (s.setRoles l t r m) := (h.setGate _).waterItem

theorem Reaches.setOfficeHold (on : Bool) : Reaches a (s.setOfficeHold on) := (h.setGate _).recomputeHoldAndWalk

/-- Another state of the alarm unit is written where it is one move away, and the gate is told (R171). -/
theorem Reaches.changeAlarms {b : Alarms} (m : AlarmMove s.alarms b) : Reaches a (s.changeAlarms b) := by
  have moved : Reaches a (s.setAlarms b) := h.move m
  exact moved.ite _ (moved.setGate _).recomputeHoldAndWalk

/-! ### Charges and the tool (R46, R78, R90) -/

theorem Reaches.addCharge (n : Nat) (c : Charge) : Reaches a (s.addCharge n c) :=
  addCharge_keeps (h.setCost _) fun _ k hu => hu.raise k n

theorem Reaches.chargeStone (n x y : Nat) : Reaches a (s.chargeStone n x y) := h.addCharge _ _

theorem Reaches.requote (n : Nat) (q : Option Nat) : Reaches a (s.requote n q) := (h.setCost _).raiseIf _ _ _

theorem Reaches.wearTool (n area : Nat) : Reaches a (s.wearTool n area) := by
  unfold State.wearTool
  split
  · exact h
  · exact ((h.setCutting _).raiseIf _ _ _).raiseIf _ _ _

/-! ### Completions (R31 to R35, R67 to R69) -/

theorem Reaches.applyCompletion (id n : Nat) (e : CutEnd) (k : Nat) (l : List Nat) :
    Reaches a (s.applyCompletion id n e k l).1 := by
  unfold State.applyCompletion
  (repeat' split) <;> exact h.of_same

theorem Reaches.startQueued (n : Nat) : Reaches a (s.startQueued n) := by
  unfold State.startQueued
  split <;> exact h

theorem Reaches.takeCompletion (c : Cutter) (r : CutRecord) (m : Completion) : Reaches a (s.takeCompletion c r m) := by
  have applied := h.applyCompletion r.slab r.number m.ending (min m.pieces r.pieces.length) m.lengths
  unfold State.takeCompletion
  generalize s.applyCompletion r.slab r.number m.ending (min m.pieces r.pieces.length) m.lengths = result at applied ⊢
  obtain ⟨u, hand⟩ := result
  have worn : ∀ charge f report area, Reaches a
      ((((u.addCharge r.job charge).changeCutter r.onCutter f).finishRecord r none report).wearTool r.onCutter area) :=
    fun _ _ _ _ => (((applied.addCharge _ _).changeCutter _ _).finishRecord _ _ _).wearTool _ _
  have ended : ∀ v, Reaches a v → Reaches a
      (if m.ending = .fault then ((v.faultCutter r.onCutter).raise .cutterFault r.onCutter).faultSweep r.onCutter
        else v.startQueued r.onCutter) :=
    fun _ hv => (((hv.faultCutter _).raise _ _).faultSweep _).ite _ (hv.startQueued _)
  exact ended _ (((worn _ _ _ _).endWaiting _ _).ite _ (worn _ _ _ _))

theorem Reaches.lateCompletion (c : Cutter) (u : Uncertain) (m : Completion) : Reaches a (s.lateCompletion c u m) :=
  ((h.setCutting _).raise _ _).queueReport _

theorem Reaches.completion (c : Cutter) (m : Completion) : Reaches a (s.completion c m) := by
  unfold State.completion
  split
  · exact (h.takeCompletion _ _ _).reevaluate
  · exact h
  · exact h.lateCompletion _ _ _
  · exact (h.mismatch _).reevaluateIf _

/-! ### Channels and samples (R98, R100, R108, R109, R121) -/

theorem Reaches.recompare (x : Channel) : Reaches a (s.recompare x) := (h.setWater _).raiseIf _ _ _

theorem Reaches.enterStale (x : Channel) : Reaches a (s.enterStale x) := (h.setWater _).raiseIf _ _ _

theorem Reaches.gateSample (n value time : Nat) : Reaches a (s.gateSample n value time) := by
  unfold State.gateSample
  split
  · exact (h.evaluateLatch _).reevaluate
  · exact (h.evaluateLatch _).reevaluate
  · exact h.reevaluate
  · exact makeupSample_keeps h.setGate (fun _ c hu => hu.addCharge 0 c) _ _
  · exact h

theorem Reaches.dealWith (n i : Nat) (o : PollOutcome) : Reaches a (s.dealWith n i o) := by
  unfold State.dealWith
  split
  · refine Reaches.ite (Reaches.ite ((h.recompare _).gateSample _ _ _) _ ?_) _ h
    exact (h.enterStale _).ite _ h
  · exact h

theorem Reaches.defineChannel (n x i : Nat) (k : ChannelKind) (low high : Option Nat) :
    Reaches a (s.defineChannel n x i k low high) := by
  unfold State.defineChannel
  dsimp only
  split
  · exact h
  · exact (h.recompare _).ite _ ((h.setWater _).ite _ (h.enterStale _))

/-! ### The stock table (R3 to R9, R16 to R18) -/

theorem Reaches.flawsChanged (id : Nat) (old new : List Zone) : Reaches a (s.flawsChanged id old new) :=
  Reaches.raiseIf h.of_same _ _ _

theorem Reaches.scan (n : Nat) (d : ScanData) : Reaches a (s.scan n d).1 := by
  unfold State.scan
  split
  · split
    next sl _ =>
      have updated : ∀ x, Reaches a ((s.putSlab x).stockReport .updated sl.id) := fun _ => (h.setStock _).stockReport _ _
      exact ((updated _).flawsChanged _ _ _).ite _ (updated _)
    · split
      · exact (h.setStock _).stockReport _ _
      · exact h.raise _ _
  · exact h

theorem Reaches.discarded (sl : Slab) : Reaches a (s.discarded sl) := by
  have removed : Reaches a ((s.dropSlab sl.id).stockReport .removed sl.id) := (h.setStock _).stockReport _ _
  unfold State.discarded
  dsimp only
  split
  · exact removed
  · exact removed.chargeStone _ _ _

theorem Reaches.createRemnant (sl : Slab) (slot : Nat) : Reaches a (s.createRemnant sl slot) :=
  ((h.setStock _).setStock _).stockReport _ _

theorem Reaches.chargeScrap (sl : Slab) (job scrap : Nat) : Reaches a (s.chargeScrap sl job scrap) :=
  h.ite _ (h.chargeStone _ _ _)

theorem Reaches.evict (sl : Slab) : Reaches a (s.evict sl) :=
  (((h.setStock _).chargeStone _ _ _).raise _ _).stockReport _ _

theorem Reaches.unloadSequence (sl : Slab) (job : Nat) : Reaches a (s.unloadSequence sl job) := by
  have removed : Reaches a ((s.dropSlab sl.id).stockReport .removed sl.id) := (h.setStock _).stockReport _ _
  unfold State.unloadSequence
  refine Reaches.ite ?_ _ (removed.chargeScrap _ _ _)
  split
  · exact (removed.createRemnant _ _).chargeScrap _ _ _
  · split
    · exact ((removed.evict _).createRemnant _ _).chargeScrap _ _ _
    · exact (removed.raise _ _).chargeScrap _ _ _

theorem Reaches.unloaded (c : Cutter) (id : Nat) : Reaches a (s.unloaded c id) := by
  have dropped : Reaches a (s.dropPlan id) := h
  refine Reaches.changeCutter ?_ _ _
  split
  · exact dropped
  · exact dropped.unloadSequence _ _

end Raises

end Sys2Proof.Machine
end

section
/-! PROOFS. The floor line, the arbiters and the items along the alarm unit's moves, and whole steps. -/

namespace Sys2Proof.Machine

/-! ### What is due (R63, R65, R71, R100) and the floor line (R132 to R143) -/

section Line

variable {a : Alarms} {s t : State} (h : Reaches a s)
include h

theorem Reaches.engineAdvance : Reaches a s.engineAdvance := by
  unfold State.engineAdvance
  dsimp only
  split
  · exact h
  · exact h
  · exact Reaches.ite (h.setWater _) _ ((h.setWater _).queueReport _)
  · exact (h.setWater _).ite _ (h.setWater _)

theorem Reaches.scanPollOver : Reaches a s.scanPollOver := (h.setWater _).engineAdvance.ite _ (h.setWater _)

theorem Reaches.takeReport (r : LineReport) : Reaches a (s.takeReport r) := by
  cases r with
  | startFailed n id => exact (h.startFailed n id).reevaluateIf _
  | abortFailed n => exact h
  | unreachable n => exact (h.cutterLost n).reevaluateIf _

theorem Reaches.timeOutId (id : Nat) : Reaches a (s.timeOutId id) := by
  unfold State.timeOutId
  split
  · exact h
  · exact (h.timeOut _).reevaluate.ite _ h

theorem Reaches.staleId (n : Nat) : Reaches a (s.staleId n) := by
  unfold State.staleId
  split
  · exact h
  · exact (h.enterStale _).ite _ h

theorem Reaches.startDuePass : Reaches a s.startDuePass := h.of_same

theorem Reaches.takeDue (due : s.takeDue = some t) : Reaches a t := by
  unfold State.takeDue at due
  split at due
  next => cases due; exact (h.setLine _).takeReport _
  next =>
    split at due
    next => cases due; exact h.timeOutId _
    next =>
      split at due
      next => cases due; exact (h.setWater _).staleId _
      next =>
        split at due
        · cases due; exact h.startDuePass
        · split at due <;> cases due; exact h

theorem Reaches.loseStation (st : Station) : Reaches a (s.loseStation st) := (h.setLine _).raise _ _

theorem Reaches.failStation (n : Nat) : Reaches a (s.failStation n) := by
  have lost : ∀ st, Reaches a (s.stationLost st) := fun st => by
    unfold State.stationLost
    dsimp only
    split
    · exact ((h.loseStation st).setLine _).ite _ (h.loseStation st)
    · exact h.loseStation st
  unfold State.failStation
  split
  · exact h
  · exact (lost _).ite _ (h.setLine _)

theorem Reaches.retryAttemptFailed (r : SlotRef) (lost : Bool) : Reaches a (s.retryAttemptFailed r lost) := by
  have unacked : Reaches a (s.raise .holdUnacked r.onCutter).dropMissed := h.raise _ _
  refine Reaches.ite ?_ _ h
  unfold State.retryFailed
  dsimp only
  split
  · exact unacked
  · exact unacked.ite _ ((unacked.loseStation _).ite _ ((unacked.loseStation _).setLine _))

theorem Reaches.txFailed (x : Tx) : Reaches a (s.txFailed x) := by
  have freed := (h.failStation x.address).setLine { (s.failStation x.address).line with holder := .free, out := none }
  obtain ⟨kind, n, p⟩ := x
  cases kind with
  | command => exact freed.of_same (State.commandAttemptFailed_alarms _)
  | retry r => exact freed.retryAttemptFailed _ _
  | scanPoll _ _ _ => exact freed.scanPollOver
  | poll => exact freed.of_same (State.readerPolled_alarms _ _)

/-- A good reply credits its station and frees the line (R132, R133). -/
theorem Reaches.credited (n : Nat) : Reaches a (s.creditStation n).freeLine := h.of_same

theorem Reaches.txNothing (x : Tx) : Reaches a (s.txNothing x) := by
  have freed := h.credited x.address
  obtain ⟨kind, n, p⟩ := x
  cases kind with
  | command => exact freed.of_same (State.commandAttemptFailed_alarms _)
  | retry r => exact freed.retryAttemptFailed _ _
  | scanPoll _ _ _ => exact freed.scanPollOver
  | poll => exact freed.of_same (State.readerPolled_alarms _ _)

theorem Reaches.txAcked (x : Tx) : Reaches a (s.txAcked x) := by
  have freed := h.credited x.address
  obtain ⟨kind, n, p⟩ := x
  cases kind with
  | command => exact freed.of_same (State.commandAcked_alarms _)
  | retry r => exact freed.of_same (State.retryAcked_alarms _ _)
  | scanPoll _ _ _ => exact freed.scanPollOver
  | poll => exact freed.of_same (State.readerPolled_alarms _ _)

theorem Reaches.txClosed (x : Tx) (o : PollOutcome) : Reaches a (s.txClosed x o) := by
  have freed : Reaches a s.freeLine := h
  obtain ⟨kind, n, p⟩ := x
  cases kind with
  | command => exact freed.of_same (State.commandAttemptFailed_alarms _)
  | retry r => exact freed.retryAttemptFailed _ _
  | scanPoll _ _ _ => exact (freed.dealWith _ _ _).scanPollOver
  | poll => exact freed.of_same (State.readerPolled_alarms _ _)

theorem Reaches.slotOther (r : SlotRef) (n : Nat) : Reaches a (s.slotOther r n) := by
  refine Reaches.of_same ?_ (State.slotMissed_alarms _ _)
  exact Reaches.ite h.of_same _ h

theorem Reaches.floorFrameBegins : Reaches a s.floorFrameBegins := by
  unfold State.floorFrameBegins
  split <;> exact h

theorem Reaches.floorFrameGone : Reaches a s.floorFrameGone := by
  unfold State.floorFrameGone
  split
  · split
    · exact h
    · exact h.txClosed _ _
    · exact h
  · exact h.of_same
  · exact h

theorem Reaches.windowExpires : Reaches a s.windowExpires := by
  unfold State.windowExpires
  split
  · split
    · exact Reaches.ite (h.setLine _) _ (h.txFailed _)
    · exact h
  · exact Reaches.ite (h.setLine _) _ h.of_same
  all_goals exact h

theorem Reaches.badFrame : Reaches a s.badFrame := by
  have hunted : Reaches a s.hunt := h
  unfold State.badFrame
  split
  · exact h
  · exact hunted
  · dsimp only
    split
    · exact hunted
    · exact hunted
    · exact hunted.of_same
    · split
      · exact hunted.txFailed _
      all_goals exact hunted

/-- A good frame is discarded, or goes on as a reply or to a slot. -/
theorem Reaches.goodFrame {n : Nat} {onReply : Tx → State → State} {onSlot : SlotRef → State → State}
    (reply : ∀ x u, Reaches a u → Reaches a (onReply x u)) (slot : ∀ r u, Reaches a u → Reaches a (onSlot r u)) :
    Reaches a (s.goodFrame n onReply onSlot) := by
  have hunted : Reaches a s.hunt := h
  unfold State.goodFrame
  split
  · exact h
  · exact hunted
  · exact (hunted.txFailed _).ite _ hunted
  · exact reply _ _ hunted
  · exact slot _ _ hunted

theorem Reaches.answered (x : Tx) {pass : State → State × Bool} (o : PollOutcome)
    (passes : ∀ u, Reaches a u → Reaches a (pass u).1) : Reaches a (s.answered x pass o) := by
  have credited : Reaches a (s.creditStation x.address) := h.of_same
  unfold State.answered
  split
  · exact passes _ credited
  · exact credited

theorem Reaches.passCompletion (n : Nat) (m : Completion) : Reaches a (passCompletion n m s).1 := by
  unfold Machine.passCompletion
  split
  · split
    · exact h.completion _ _
    · exact h
  · exact h

theorem Reaches.passScan (n : Nat) (d : ScanData) : Reaches a (passScan n d s).1 := by
  unfold Machine.passScan
  split
  · exact h.scan _ _
  · exact h

/-! ### The arbiters (R134, R160) -/

theorem Reaches.grantPoll {b : Bool} (move : s.grantPoll = some (t, b)) : Reaches a t := by
  have advanced : ∀ e, Reaches a (s.setEngine e).engineAdvance := fun _ => (h.setWater _).engineAdvance
  unfold State.grantPoll at move
  dsimp only at move
  split at move
  · split at move
    · split at move <;> cases move
      · exact h
      · exact advanced _
    · cases move
      exact advanced _
  · split at move <;> cases move
    exact h

theorem Reaches.grantStep {b : Bool} (move : s.grantStep = some (t, b)) : Reaches a t := by
  unfold State.grantStep at move
  split at move
  · split at move
    · cases move; exact h
    · split at move
      · cases move; exact h
      · split at move <;> cases move <;> exact h
  · split at move
    · split at move <;> cases move
      · exact h
      · exact (h.setLine _).of_same (State.commandFailed_alarms _ _)
    · exact h.startDuePass.grantPoll move

theorem Reaches.grant : Reaches a s.grant := by
  unfold State.grant
  generalize (s.line.broadcast.map fun b => b.missed.length).getD 0 + s.line.queue.length +
    s.water.engine.scanList.length + 5 = n
  induction n generalizing s with
  | zero => exact h
  | succ n ih =>
    unfold State.grantTimes
    split
    · split
      next move => exact ih (h.grantStep move)
      next move => exact h.grantStep move
      next => exact h
    · exact h

/-- The head report leaves the queue as it begins to be sent (R176). -/
theorem Reaches.outputStart : Reaches a s.outputStart := by
  unfold State.outputStart
  split
  · exact h
  · split
    · exact h
    · split
      next r rest queue =>
        refine h.move ?_
        have left : AlarmMove s.alarms { s.alarms with reports := s.alarms.reports.tail } := .leaves
        rw [queue] at left
        exact left
      next => exact h

theorem Reaches.finish : Reaches a s.finish := h.grant.outputStart

theorem Reaches.settle : Reaches a s.settle := settle_keeps (fun _ _ hu due => (hu.takeDue due).finish) s h

theorem Reaches.takeOneReport (r : LineReport) : Reaches a (s.takeOneReport r) :=
  ((h.setLine _).takeReport r).finish.ite _ h

/-! ### The office port and the frame in hand (R148 to R154) -/

theorem Reaches.answerItem (f : InHand) (rest : List RawItem) (r : Result) : Reaches a (s.answerItem f rest r) := by
  unfold State.answerItem
  split <;> exact h

theorem Reaches.frameBegins : Reaches a s.frameBegins := by
  unfold State.frameBegins
  split <;> exact h

theorem Reaches.headerArrives (header : List Byte) : Reaches a (s.headerArrives header) := by
  unfold State.headerArrives
  (repeat' split) <;> exact h

theorem Reaches.frameArrives (rest : List Byte) : Reaches a (s.frameArrives rest) := by
  unfold State.frameArrives
  dsimp only
  (repeat' split) <;> exact h

theorem Reaches.takeFrame : Reaches a s.takeFrame := by
  unfold State.takeFrame
  dsimp only
  (repeat' split) <;> exact h

theorem Reaches.refuseBadItem : Reaches a s.refuseBadItem := by
  unfold State.refuseBadItem
  split
  · exact h
  · split
    · exact h
    · exact (h.answerItem _ _ _).ite _ h

/-! ### Items (R151, R153) -/

/-- What its owner reaches, an item reaches; one that is denied or refused leaves the alarm unit to its frame. -/
theorem Reaches.itemStep {i : Instr} {area : Area} {owner : Origin → State → Owned}
    (owned : ∀ o u, Reaches a u → (owner o u).leaves (Reaches a)) : Reaches a (s.itemStep i area owner) := by
  have settled := h.settle
  have taken : ∀ f rest, Reaches a (s.settle.takeItem f rest area owner) := fun f rest => by
    unfold State.takeItem
    split
    · exact settled.answerItem _ _ _
    next o _ =>
      refine Reaches.ite ?_ _ (settled.answerItem _ _ _)
      have left := owned o _ settled
      cases answer : owner o s.settle with
      | taken code data t => exact Reaches.answerItem (by simpa [answer] using left) _ _ _
      | refused code => exact settled.answerItem _ _ _
  refine Reaches.finish ?_
  split
  · exact settled
  · split
    · exact settled
    · exact (taken _ _).ite _ settled

/-- An item whose owner leaves the alarm unit alone. -/
theorem Reaches.itemStep_of_same {i : Instr} {area : Area} {owner : Origin → State → Owned}
    (kept : ∀ o u, (owner o u).leaves fun t => t.alarms = u.alarms) : Reaches a (s.itemStep i area owner) :=
  h.itemStep fun o u hu => leaves_mono (fun _ same => hu.of_same same) (kept o u)

/-- An item whose owner leaves the gate and the alarm unit alone. -/
theorem Reaches.itemStep_of_untouched {i : Instr} {area : Area} {owner : Origin → State → Owned}
    (kept : ∀ o u, (owner o u).leaves (HoldUntouched u)) : Reaches a (s.itemStep i area owner) :=
  h.itemStep_of_same fun o u => leaves_mono (fun _ untouched => untouched.2) (kept o u)

/-! ### What the items do (R40, R60, R72, R73, R146) -/

theorem Reaches.changeStep_project (id n : Nat) (f : Step → Step) : Reaches a ((s.changeStep id n f).project id) :=
  h.of_same

theorem Reaches.rule (id : Nat) (st : Step) (ruling : Nat) : Reaches a (s.rule id st ruling) := by
  have accepted : Reaches a (s.acceptUnresolved id st) := (h.applyCompletion _ _ _ _ _).addCharge _ _
  exact (h.changeStep_project _ _ _).ite _ ((accepted.ite _ (h.changeStep_project _ _ _)).ite _
    (h.changeStep_project _ _ _))

theorem Reaches.accept (id : Nat) (c : Cutter) (sl : Slab) (st : Step) : Reaches a (s.accept id c sl st).1 :=
  Reaches.gateNew h.of_same _

theorem Reaches.aborted (c : Cutter) : Reaches a (s.aborted c) := by
  have ended := h.endWaiting c.number (.failed .aborted)
  refine Reaches.reevaluateIf ?_ _
  exact Reaches.ite ended.of_same _ ended

theorem Reaches.restartCutter (n : Nat) : Reaches a (s.restartCutter n) := by
  refine Reaches.changeCutter ?_ _ _
  exact (h.endAll _ _).ite _ (((h.endAll _ _).faultCutter n).faultSweep n)

theorem Reaches.floorRestarted : Reaches a s.floorRestarted := by
  have restarted := List.foldlRecOn (motive := Reaches a) (s.cutting.cutters.map Cutter.number) State.restartCutter
    (show Reaches a s.lineDropped from h) fun _ hu n _ => hu.restartCutter n
  have worked : Reaches a s.lineDropped.restartWork := Reaches.reevaluateIf (restarted.setWater _) _
  exact Reaches.ite worked.of_same _ worked

end Line

/-! ### Every command -/

theorem Reaches.next {a : Alarms} {t u : State}
    (e : (Host.Outcome.next u : Host.Outcome State Fault Refusal) = .next t) (h : Reaches a u) : Reaches a t := by
  cases e
  exact h

/-- A command that is an event: POWER_ON is a move of its own, and all that comes of the others is made of reports, raises
and the arbiters' moves. -/
theorem exec_event_reaches {a : Alarms} {s t : State} {i : Instr} (event : areaOf i = none) (h : Reaches a s)
    (hx : exec i s = .next t) : Reaches a t := by
  have settled := h.settle
  cases i with
  | powerOn => exact .next hx (h.move .poweredOn)
  | timeBaseSecond => exact .next hx settled
  | cutTimeout id => exact .next hx ((h.timeOutId id).finish.ite _ h)
  | channelEntersStale n => exact .next hx (((h.setWater _).staleId n).finish.ite _ h)
  | scanPassDue => exact .next hx (h.startDuePass.finish.ite _ h)
  | readerPollDue _ => exact .next hx (h.finish.ite _ h)
  | startFailure _ _ | abortFailure _ | cutterUnreachable _ => exact .next hx (h.takeOneReport _)
  | officeFrameBegin => exact .next hx settled.frameBegins.finish
  | officeHeaderArrived _ => exact .next hx (settled.headerArrives _).finish
  | officeFrameArrived _ => exact .next hx (settled.frameArrives _).finish
  | officeLinkSilence => exact .next hx (Reaches.finish (s := s.settle.setReceiver .hunting) settled)
  | frameSent =>
    exact .next hx (Reaches.finish (s := s.settle.setOffice { s.settle.office with sending := none }) settled)
  | takeFrame => exact .next hx settled.takeFrame.finish
  | badItem => exact .next hx settled.refuseBadItem.finish
  | floorFrameBegin => exact .next hx settled.floorFrameBegins.finish
  | floorFrameSent => exact .next hx settled.floorFrameGone.finish
  | responseWindowExpired => exact .next hx settled.windowExpires.finish
  | floorLineSilence | badFloorFrame => exact .next hx settled.badFrame.finish
  | floorAck _ =>
    exact .next hx (settled.goodFrame (fun x u hu => hu.txAcked x) fun r u hu =>
      Reaches.ite (hu.of_same (State.slotAcked_alarms _ _)) _ (hu.slotOther _ _)).finish
  | floorNak _ | noneAnswer _ =>
    exact .next hx (settled.goodFrame (fun x u hu => hu.txNothing x) fun r u hu => hu.slotOther r _).finish
  | completionAnswer _ _ _ _ _ _ _ _ _ _ =>
    exact .next hx (settled.goodFrame (fun x u hu => hu.answered x _ fun v hv => hv.passCompletion _ _)
      fun r u hu => hu.slotOther r _).finish
  | scanAnswer _ _ _ _ _ _ _ =>
    exact .next hx (settled.goodFrame (fun x u hu => hu.answered x _ fun v hv => hv.passScan _ _)
      fun r u hu => hu.slotOther r _).finish
  | valueAnswer _ _ _ _ =>
    exact .next hx (settled.goodFrame (fun x u hu => hu.answered x _ fun v hv => hv)
      fun r u hu => hu.slotOther r _).finish
  | _ => cases event

/-- TAKE ALARM takes an entry out by its kind and subject, or finds none (R173). -/
theorem Reaches.takeAlarmItem {a : Alarms} {s : State} (h : Reaches a s) (o : Origin) :
    (takeAlarmItem o s).leaves (Reaches a) := by
  unfold Machine.takeAlarmItem
  split
  · exact h
  next e _ _ => exact h.changeAlarms (.taken e)

/-- A command that is an item: ALARM ACTION and TAKE ALARM rewrite the tables, the others raise and report at most. -/
theorem exec_item_reaches {a : Alarms} {s t : State} {i : Instr} {area : Area} (item : areaOf i = some area)
    (h : Reaches a s) (hx : exec i s = .next t) : Reaches a t := by
  cases i with
  | alarmAction k p x =>
    refine .next hx (h.itemStep fun o u hu => ?_)
    have rewritten : ∀ j y, Reaches a (u.changeAlarms (u.alarms.reacted j p y)) := fun j y =>
      hu.changeAlarms (.reacted j p y)
    simp [alarmActionItem, rewritten]
  | takeAlarm => exact .next hx (h.itemStep fun o u hu => hu.takeAlarmItem o)
  | useJob _ | useCutter _ | useSlab _ | contextClear =>
    exact .next hx (h.itemStep_of_same fun o u => by
      simp [useJobItem, useCutterItem, useSlabItem, contextClearItem, setContext])
  | price _ _ _ | reserve _ _ | release _ | remnantLimits _ _ =>
    exact .next hx (h.itemStep_of_same fun o u => by
      simp [priceItem, reserveItem, releaseItem, remnantLimitsItem, needSlab])
  | findRemnant l w lot => exact .next hx (h.itemStep_of_untouched fun o u => findRemnantItem_untouched o u l w lot)
  | discard _ =>
    refine .next hx (h.itemStep fun o u hu => ?_)
    simp [discardItem, needSlab, hu.discarded]
  | planLoad _ _ _ | planClear _ | skip _ _ | tolerance _ =>
    exact .next hx (h.itemStep_of_same fun o u => by
      simp [planLoadItem, planClearItem, skipItem, toleranceItem, needSlab, State.skipStep])
  | verdict _ _ _ =>
    refine .next hx (h.itemStep fun o u hu => ?_)
    simp [verdictItem, needSlab, hu.rule]
  | load _ _ _ | toolChange _ | clearFault _ =>
    exact .next hx (h.itemStep_of_same fun o u => by
      simp [loadItem, toolChangeItem, clearFaultItem, needCutter, State.loaded])
  | unload _ =>
    refine .next hx (h.itemStep fun o u hu => ?_)
    simp [unloadItem, needCutter, hu.unloaded]
  | cut _ _ _ _ =>
    refine .next hx (h.itemStep fun o u hu => ?_)
    simp [cutItem, cutChecks, hu.accept]
  | abort _ =>
    refine .next hx (h.itemStep fun o u hu => ?_)
    simp [abortItem, needCutter, hu.aborted]
  | scanStart mode n => exact .next hx (h.itemStep_of_untouched fun o u => scanStartItem_untouched o u mode n)
  | scanStop => exact .next hx (h.itemStep_of_untouched scanStopItem_untouched)
  | scanList _ => exact .next hx (h.itemStep_of_same fun o u => by simp [scanListItem])
  | channelLimits _ _ _ =>
    refine .next hx (h.itemStep fun o u hu => ?_)
    simp [channelLimitsItem, hu.recompare]
  | waterRoles _ _ _ _ =>
    refine .next hx (h.itemStep fun o u hu => ?_)
    simp [waterRolesItem, hu.setRoles]
  | waterMarks _ _ _ _ _ =>
    refine .next hx (h.itemStep fun o u hu => ?_)
    simp [waterMarksItem, (hu.setGate _).waterItem]
  | lineHold => exact .next hx (h.itemStep fun o u hu => hu.setOfficeHold true)
  | lineRelease => exact .next hx (h.itemStep fun o u hu => hu.setOfficeHold false)
  | jobQuote _ _ =>
    refine .next hx (h.itemStep fun o u hu => ?_)
    simp [jobQuoteItem, needJob, hu.requote]
  | jobOpen _ _ | jobClose _ | shopRates _ _ =>
    exact .next hx (h.itemStep_of_same fun o u => by simp [jobOpenItem, jobCloseItem, shopRatesItem, needJob])
  | station n k => exact .next hx (h.itemStep_of_untouched fun o u => stationItem_untouched o u n k)
  | cutter n x k _ _ _ _ _ _ _ _ _ => exact .next hx (h.itemStep_of_untouched fun o u => cutterItem_untouched o u n x k _)
  | floorRestart => exact .next hx (h.itemStep fun o u hu => hu.floorRestarted)
  | channel _ _ _ _ _ _ =>
    refine .next hx (h.itemStep fun o u hu => ?_)
    simp [channelItem, hu.defineChannel]
  | stationRemove _ | lineSettings _ _ _ _ _ | cutterRemove _ | channelRemove _ | origin _ _ _ | originRemove _
  | openLevel _ =>
    exact .next hx (h.itemStep_of_same fun o u => by
      simp [stationRemoveItem, lineSettingsItem, cutterRemoveItem, channelRemoveItem, originItem, originRemoveItem,
        openLevelItem, State.removeCutter, State.resettled])
  | readSlab _ | readPlan _ | readCutter _ | readChannel _ | readJob _ | readRoster | readWater | readAlarms =>
    exact .next hx (h.itemStep_of_same fun o u => by
      simp [readSlabItem, readPlanItem, readCutterItem, readChannelItem, readJobItem, readRosterItem, readWaterItem,
        readAlarmsItem, needSlab, needCutter, needJob])
  | _ => cases item

/-- Whatever a step does, it takes the alarm unit along its moves. -/
theorem step_reaches {s t : State} (hs : step s = .next t) : Reaches s.alarms t := by
  have here := Reaches.rfl' s
  unfold step at hs
  split at hs
  next => exact .next hs here
  next c rest _ =>
    have fetched : Reaches s.alarms (s.setPending rest) := here
    cases area : areaOf c with
    | none => exact exec_event_reaches area fetched hs
    | some _ => exact exec_item_reaches area fetched hs

/-- Settles O55: each move of the alarm unit keeps its tables within their rules, and a step is made of such moves. -/
theorem alarmTablesKept : Obligations.AlarmTablesKept := fun _ _ h hs =>
  alarmTablesHold_iff.2 ((alarmTablesHold_iff.1 h).path (step_reaches hs))

end Sys2Proof.Machine
end

section
/-! PROOFS. ALARM ACTION and TAKE ALARM (R172, R173), and what a raise leaves in each of its cases (R170, R178). -/

namespace Sys2Proof.Machine

/-! ### The alarm tables rewritten (R171, R172, R173) -/

theorem alarmKindOf_code (k : AlarmKind) : alarmKindOf k.code = some k := by cases k <;> rfl

theorem alarmActionOf_code (x : AlarmAction) : alarmActionOf x.code = some x := by cases x <;> rfl

/-- Line hold recomputed, with the walk that may follow, leaves the tables of the alarm unit, the stock and the jobs. -/
theorem unchanged_recomputeHoldAndWalk (s : State) :
    Unchanged [.plans, .cutting, .gate, .floor, .reports] s s.recomputeHoldAndWalk := by
  have held : Unchanged [.plans, .cutting, .gate, .floor, .reports] s s.recomputeHold :=
    (unchanged_recomputeHold s).mono (by decide)
  unfold State.recomputeHoldAndWalk
  dsimp only
  split
  · exact held.trans (walk_woundUp _ s.recomputeHold).parts (by decide)
  · exact held

/-- Beyond the tables written, the gate alone is told (R171). -/
theorem unchanged_changeAlarms (s : State) (b : Alarms) :
    Unchanged [.plans, .cutting, .gate, .floor, .reports] (s.setAlarms b) (s.changeAlarms b) := by
  unfold State.changeAlarms
  dsimp only
  split
  · exact .rfl' _
  · exact ((unchanged_setGate (s.setAlarms b) _).mono (by decide)).trans (unchanged_recomputeHoldAndWalk _) (by decide)

theorem changeAlarms_tables (s : State) (b : Alarms) :
    (s.changeAlarms b).alarms.actions = b.actions ∧ (s.changeAlarms b).alarms.entries = b.entries :=
  ⟨unchanged_changeAlarms s b .actions (by decide), unchanged_changeAlarms s b .entries (by decide)⟩

theorem changeAlarms_office (s : State) (b : Alarms) : (s.changeAlarms b).office = s.office :=
  ((Within.rfl' s).changeAlarms b).office

theorem changeAlarms_stock (s : State) (b : Alarms) : (s.changeAlarms b).stock = s.stock :=
  unchanged_changeAlarms s b .stock (by decide)

theorem changeAlarms_seconds (s : State) (b : Alarms) : (s.changeAlarms b).seconds = s.seconds :=
  unchanged_changeAlarms s b .seconds (by decide)

/-! ### The order of TAKE ALARM (R173) -/

theorem insertByPriority_perm (e : AlarmEntry) (l : List AlarmEntry) : (insertByPriority e l).Perm (e :: l) := by
  induction l with
  | nil => exact .refl _
  | cons f l ih =>
    unfold insertByPriority
    split
    · exact .refl _
    · exact (ih.cons f).trans (.swap e f l)

theorem insertByPriority_falls (e : AlarmEntry) {l : List AlarmEntry}
    (h : l.Pairwise fun x y => y.priority ≤ x.priority) :
    (insertByPriority e l).Pairwise fun x y => y.priority ≤ x.priority := by
  induction l with
  | nil => exact List.pairwise_singleton _ _
  | cons f l ih =>
    obtain ⟨head, tail⟩ := List.pairwise_cons.1 h
    unfold insertByPriority
    split
    next lower =>
      refine List.pairwise_cons.2 ⟨List.forall_mem_cons.2 ⟨Nat.le_of_lt lower, fun x hx => ?_⟩, h⟩
      exact Nat.le_trans (head x hx) (Nat.le_of_lt lower)
    next higher =>
      refine List.pairwise_cons.2 ⟨fun x hx => ?_, ih tail⟩
      rcases List.mem_cons.1 ((insertByPriority_perm e l).mem_iff.1 hx) with rfl | hx
      · exact Nat.le_of_not_lt higher
      · exact head x hx

/-- The take order is the pending entries, none lost and none doubled. -/
theorem takeOrder_perm (a : Alarms) : a.takeOrder.Perm a.entries := by
  have inserted : ∀ l acc : List AlarmEntry, (l.foldl (fun l e => insertByPriority e l) acc).Perm (l ++ acc) := by
    intro l
    induction l with
    | nil => exact fun acc => .refl _
    | cons e l ih =>
      exact fun acc => (ih _).trans (((insertByPriority_perm e acc).append_left l).trans List.perm_middle)
  exact (inserted a.entries []).trans (.of_eq (List.append_nil _))

theorem takeOrder_falls (a : Alarms) : a.takeOrder.Pairwise fun x y => y.priority ≤ x.priority :=
  List.foldlRecOn (motive := List.Pairwise fun x y : AlarmEntry => y.priority ≤ x.priority) a.entries _ .nil
    fun _ falls e _ => insertByPriority_falls e falls

/-- The head of the take order is pending, and no pending entry is more urgent. -/
theorem takeOrder_head {a : Alarms} {e : AlarmEntry} {l : List AlarmEntry} (h : a.takeOrder = e :: l) :
    e ∈ a.entries ∧ ∀ f ∈ a.entries, f.priority ≤ e.priority := by
  have falls := takeOrder_falls a
  have perm := takeOrder_perm a
  rw [h] at falls perm
  refine ⟨perm.mem_iff.1 List.mem_cons_self, fun f hf => ?_⟩
  rcases List.mem_cons.1 (perm.mem_iff.2 hf) with rfl | hf
  · exact Nat.le_refl _
  · exact (List.pairwise_cons.1 falls).1 f hf

/-- Settles O47: ALARM ACTION passes its checks and writes both tables; TAKE ALARM takes the head of the take order. -/
theorem alarmItemsRewriteTheTables : Obligations.AlarmItemsRewriteTheTables := by
  intro s h rest o
  refine ⟨?action, ?none, ?taken⟩
  case action =>
    intro k p x hr low high admitted
    have range : (within 1 7 p && x.admittedFor k) = true := by simp [within, low, high, admitted]
    have owned : alarmActionItem k.code p x.code o s = .ok (s.changeAlarms (s.alarms.reacted k p x)) := by
      rw [alarmActionItem, alarmKindOf_code, need_some, alarmActionOf_code, need_some, range, ensure_true]
    obtain ⟨actions, entries⟩ := changeAlarms_tables s (s.alarms.reacted k p x)
    refine ⟨_, exec_of_taken (owner := alarmActionItem k.code p x.code) rfl hr owned, ?_, ?_,
      answered_replied (changeAlarms_office s _), ?_, ?_, ?_⟩
    · rw [replied_actions, actions]; rfl
    · rw [replied_entries, entries]; rfl
    · rw [replied_stock, changeAlarms_stock]
    · rw [replied_cost, changeAlarms_cost]
    · rw [replied_seconds, changeAlarms_seconds]
  case none =>
    intro hr empty
    have owned : takeAlarmItem o s = .okWith (be1 0) s := by
      rw [takeAlarmItem, Alarms.takeOrder, empty]
      rfl
    exact ⟨_, exec_of_taken (owner := takeAlarmItem) rfl hr owned, answered_replied rfl,
      unchanged_replied (.rfl' s) rfl (.inl List.not_mem_nil)⟩
  case taken =>
    intro e l hr order
    obtain ⟨pending, urgent⟩ := takeOrder_head order
    have owned : takeAlarmItem o s = .okWith (be1 1 ++ e.bytes (s.alarms.actionOf e.kind)) (s.changeAlarms
        { s.alarms with entries := s.alarms.entries.filter fun f => !f.isOf e.kind e.subject }) := by
      rw [takeAlarmItem, order]
    obtain ⟨actions, entries⟩ := changeAlarms_tables s
      { s.alarms with entries := s.alarms.entries.filter fun f => !f.isOf e.kind e.subject }
    refine ⟨_, exec_of_taken (owner := takeAlarmItem) rfl hr owned, pending, urgent, ?_, ?_,
      answered_replied (changeAlarms_office s _)⟩
    · rw [replied_entries, entries]; rfl
    · rw [replied_actions, actions]

/-! ### The reports of a raise (R170, R175, R178) -/

/-- A WATER report joins the queue or is lost. -/
theorem queueReport_water (s : State) (w : WaterEvent) : ∃ more : List Report, (∀ r ∈ more, ∀ x, r.body ≠ .alarm x) ∧
    (s.queueReport (.water w)).alarms.reports = s.alarms.reports ++ more := by
  rcases Nat.lt_or_ge s.alarms.reports.length 64 with room | full
  · exact ⟨_, by simp, queueReport_reports_of_room (.water w) room⟩
  · exact ⟨[], by simp, by rw [queueReport_alarms_of_full _ full, List.append_nil]⟩

/-- Line hold recomputed queues a WATER report at most. -/
theorem recomputeHold_reports (s : State) : ∃ more : List Report, (∀ r ∈ more, ∀ x, r.body ≠ .alarm x) ∧
    s.recomputeHold.alarms.reports = s.alarms.reports ++ more := by
  unfold State.recomputeHold
  dsimp only
  split
  · exact ⟨[], by simp⟩
  · simpa only [State.orderBroadcast_alarms, State.setGate_alarms] using
      queueReport_water ((s.setGate { s.gate with lineHold := s.gate.wantsHold }).orderBroadcast _) _

/-- From `s` to `t` the ALARM report `r` has joined the queue, with at most other kinds of reports behind it; or, where the
queue was full, it was lost and a gap is noted (R178). -/
def AlarmReported (s t : State) (r : AlarmReport) : Prop :=
  (s.alarms.reports.length < 64 → ∃ more : List Report, (∀ q ∈ more, ∀ x, q.body ≠ .alarm x) ∧
    t.alarms.reports = s.alarms.reports ++ { body := .alarm r, time := s.seconds, gap := s.alarms.gapNoted } :: more) ∧
  (64 ≤ s.alarms.reports.length → t.alarms.reports = s.alarms.reports ∧ t.alarms.gapNoted = true)

theorem entered_reported (s : State) (k : AlarmKind) (n : Nat) :
    AlarmReported s (s.entered k n) (s.alarms.raised k n s.seconds).2.1 := by
  refine ⟨fun room => ⟨[], by simp, ?_⟩, fun full => ?_⟩
  · exact queueReport_reports_of_room (s := s.setAlarms _) _ room
  · have kept := queueReport_alarms_of_full
      (s := s.setAlarms { s.alarms with entries := (s.alarms.raised k n s.seconds).1 })
      (.alarm (s.alarms.raised k n s.seconds).2.1) full
    rw [State.entered, kept]
    exact ⟨rfl, rfl⟩

/-- Line hold recomputed leaves the ALARM report in its place. -/
theorem AlarmReported.recomputeHold {s t u : State} {r : AlarmReport} (h : AlarmReported s t r)
    (same : u.alarms = t.alarms) : AlarmReported s u.recomputeHold r := by
  obtain ⟨joined, lost⟩ := h
  obtain ⟨water, others, queued⟩ := recomputeHold_reports u
  refine ⟨fun room => ?_, fun full => ?_⟩
  · obtain ⟨more, other, reports⟩ := joined room
    refine ⟨more ++ water, fun q hq => (List.mem_append.1 hq).elim (other q) (others q), ?_⟩
    rw [queued, same, reports, List.append_assoc, List.cons_append]
  · obtain ⟨reports, gap⟩ := lost full
    rw [← same] at reports gap
    obtain ⟨kept, stays⟩ := (recomputeHold_grows u).full (by rw [reports]; exact full)
    exact ⟨kept.trans reports, stays gap⟩

/-- A raise leaves the table and the report that its case gives, told to the gate or not. -/
theorem raise_of_raised {s : State} {k : AlarmKind} {n : Nat} {l : List AlarmEntry} {r : AlarmReport} {b : Bool}
    (h : s.alarms.raised k n s.seconds = (l, r, b)) :
    (s.raise k n).alarms.entries = l ∧ AlarmReported s (s.raise k n) r := by
  have entered := entered_reported s k n
  refine ⟨by rw [raise_entries, h], ?_⟩
  rw [h] at entered
  rw [raise_eq]
  split
  · exact entered.recomputeHold rfl
  · exact entered

/-! ### The four cases of a raise (R170) -/

theorem lowestOldest_eq_some {older newer : List AlarmEntry} {d : AlarmEntry}
    (higher : ∀ e ∈ older, d.priority < e.priority) (least : ∀ e ∈ newer, d.priority ≤ e.priority) :
    lowestOldest (older ++ d :: newer) = some d := by
  induction older with
  | nil =>
    rw [List.nil_append, lowestOldest]
    split
    · rfl
    next f found => rw [if_neg (Nat.not_lt.2 (least f (lowestOldest_mem found)))]
  | cons e older ih =>
    obtain ⟨above, higher⟩ := List.forall_mem_cons.1 higher
    rw [List.cons_append, lowestOldest, ih higher]
    exact if_pos above

theorem displaceable_iff {a : Alarms} {p : Nat} {e : AlarmEntry} :
    a.displaceable p e = true ↔ a.actionOf e.kind = .report ∧ e.priority < p := by
  simp [Alarms.displaceable]

section Cases

variable {a : Alarms} {k : AlarmKind} {n : Nat} (now : Nat)

/-- Case 1: the pending entry is counted. -/
theorem raised_of_pending {e : AlarmEntry} (pending : a.entries.find? (AlarmEntry.isOf k n) = some e) :
    a.raised k n now = (a.entries.map fun f => if f.isOf k n then f.repeated now else f,
      ⟨k, n, e.priority, min 255 (e.count + 1), false, none⟩, false) := by
  rw [Alarms.raised, pending]

/-- Case 2: there is room for a new entry. -/
theorem raised_of_room (new : a.entries.find? (AlarmEntry.isOf k n) = none) (room : a.entries.length < 48) :
    a.raised k n now =
      (a.entries ++ [a.fresh k n now], ⟨k, n, (a.entryOf k).priority, 1, false, none⟩, true) := by
  rw [Alarms.raised, new]
  exact if_pos room

/-- Case 3: an entry gives way. -/
theorem raised_of_displaced {d : AlarmEntry} (new : a.entries.find? (AlarmEntry.isOf k n) = none)
    (full : 48 ≤ a.entries.length)
    (lowest : lowestOldest (a.entries.filter (a.displaceable (a.entryOf k).priority)) = some d) :
    a.raised k n now = (a.entries.filter (fun e => !e.isOf d.kind d.subject) ++ [a.fresh k n now],
      ⟨k, n, (a.entryOf k).priority, 1, false, some (d.kind, d.subject)⟩, true) := by
  rw [Alarms.raised, new]
  dsimp only
  rw [if_neg (show ¬_ < Config.maxAlarms from Nat.not_lt.2 full), lowest]
  rfl

/-- Case 4: none gives way. -/
theorem raised_of_stuck (new : a.entries.find? (AlarmEntry.isOf k n) = none) (full : 48 ≤ a.entries.length)
    (stuck : lowestOldest (a.entries.filter (a.displaceable (a.entryOf k).priority)) = none) :
    a.raised k n now = (a.entries, ⟨k, n, (a.entryOf k).priority, 1, true, none⟩, false) := by
  rw [Alarms.raised, new]
  dsimp only
  rw [if_neg (show ¬_ < Config.maxAlarms from Nat.not_lt.2 full), stuck]

end Cases

theorem find?_isOf_eq_none {l : List AlarmEntry} {k : AlarmKind} {n : Nat} (h : l.any (AlarmEntry.isOf k n) = false) :
    l.find? (AlarmEntry.isOf k n) = none :=
  List.find?_eq_none.2 fun e he => by simpa using List.any_eq_false.1 h e he

/-- Settles O48: in each case the raise leaves the table and the report that the case gives; the entry that gives way is
found behind higher ones and before none that is lower. -/
theorem raiseCountsCreatesDisplacesOrDrops : Obligations.RaiseCountsCreatesDisplacesOrDrops := by
  intro s k n
  refine ⟨?_, ?_, ?_, ?_⟩
  · intro e pending
    exact raise_of_raised (raised_of_pending s.seconds pending)
  · intro new room
    exact raise_of_raised (raised_of_room s.seconds (find?_isOf_eq_none new) room)
  · intro older newer d new full split gives higher least
    refine raise_of_raised (raised_of_displaced s.seconds (find?_isOf_eq_none new) full ?_)
    rw [split, List.filter_append, List.filter_cons_of_pos (displaceable_iff.2 gives)]
    refine lowestOldest_eq_some (fun e he => ?_) fun e he => ?_ <;> obtain ⟨mem, yields⟩ := List.mem_filter.1 he
    · exact higher e mem (displaceable_iff.1 yields)
    · exact least e mem (displaceable_iff.1 yields)
  · intro new full stuck
    refine raise_of_raised (raised_of_stuck s.seconds (find?_isOf_eq_none new) full ?_)
    rw [List.filter_eq_nil_iff.2 fun e he yields => stuck e he (displaceable_iff.1 yields)]
    rfl

end Sys2Proof.Machine
end

section
/-! PROOFS. The frames of the floor line (spec/07): those that begin and those that have gone, and a broadcast from its expected
cutters through its slots to its addressed retries. -/

namespace Sys2Proof.Machine

/-! ### A line port written while the line is held (R134) -/

section Held
variable {s : State} {x : LinePort}

theorem setLine_finish_line (held : x.holder ≠ .free) : (s.setLine x).finish.line = x := finish_line_of_held held

/-- A line port that holds the line and keeps its stations and settings leaves everything else to stand. -/
theorem unchanged_setLine_finish (held : x.holder ≠ .free) (roster : x.roster = s.line.roster)
    (active : x.active = s.line.active) (pendingSet : x.pendingSet = s.line.pendingSet)
    (staleness : x.staleness = s.line.staleness) (passInterval : x.passInterval = s.line.passInterval) :
    Unchanged [.floor] s (s.setLine x).finish := by
  intro p hp
  cases p
  case floor => exact absurd List.mem_cons_self hp
  case reports =>
    intro _ busy
    rw [finish_of_busy (s := s.setLine x) held busy]
    exact ⟨rfl, rfl⟩
  all_goals simp_all [Part.same]

end Held

/-! ### A frame begins (R183; log entry 22) -/

/-- A frame that begins is marked as inside the window exactly when a response window or a slot is open and runs on. -/
theorem floorFrameBegins_of_hunting {s : State} (hunting : s.line.receiving = none) :
    ∃ inside : Bool, s.floorFrameBegins = s.setLine { s.line with receiving := some inside } ∧
      (inside = true ↔ (∃ k a, s.line.holder = .tx { kind := k, address := a, phase := .window false }) ∨
        ∃ r, s.line.holder = .slot r false) := by
  cases hh : s.line.holder with
  | free => exact ⟨false, by simp [State.floorFrameBegins, hunting, hh], by simp⟩
  | frame => exact ⟨false, by simp [State.floorFrameBegins, hunting, hh], by simp⟩
  | slot r expired => exact ⟨!expired, by simp [State.floorFrameBegins, hunting, hh], by simp⟩
  | tx t =>
    obtain ⟨k, a, phase⟩ := t
    exact ⟨phase == .window false, by simp [State.floorFrameBegins, hunting, hh], by simp⟩

theorem exec_floorFrameBegin_of_held {s : State} (quiet : s.quiet = true) (hunting : s.line.receiving = none)
    (held : s.line.holder ≠ .free) :
    ∃ t, exec .floorFrameBegin s = .next t ∧ t.line = { s.line with receiving := t.line.receiving } ∧
      t.water = s.water ∧
      (t.line.receiving = some true ↔
        (∃ k a, s.line.holder = .tx { kind := k, address := a, phase := .window false }) ∨
          ∃ r, s.line.holder = .slot r false) ∧
      (t.line.receiving = some true ∨ t.line.receiving = some false) ∧ Unchanged [.floor] s t := by
  obtain ⟨inside, begins, open_iff⟩ := floorFrameBegins_of_hunting hunting
  have step : exec .floorFrameBegin s = .next (s.setLine { s.line with receiving := some inside }).finish := by
    show Host.Outcome.next s.settle.floorFrameBegins.finish = _
    rw [settle_of_quiet quiet, begins]
  have line := setLine_finish_line (s := s) (x := { s.line with receiving := some inside }) held
  refine ⟨_, step, by rw [line], finish_water_of_held held, ?_, ?_, unchanged_setLine_finish held rfl rfl rfl rfl rfl⟩
  · rw [line, ← open_iff]
    exact Option.some_inj
  · rw [line]
    cases inside
    · exact .inr rfl
    · exact .inl rfl

/-! ### The part's frame has gone (R132, R137, R140, R142) -/

/-- A failed attempt is repeated while the retries last; then the command leaves the queue and is reported failed, unless it is
a START whose record has ended (R137). -/
theorem commandAttemptFailed_of_head {s : State} {c : Command} {cs : List Command} (hq : s.line.queue = c :: cs) :
    s.commandAttemptFailed = if c.attempts ≤ s.line.active.retries then s
      else if c.orphan then s.setLine { s.line with queue := cs }
      else (s.setLine { s.line with queue := cs }).report c.failure := by
  simp only [State.commandAttemptFailed, hq, ← Nat.not_le, ite_not, State.popCommand, State.commandFailed, List.tail_cons]

section Sent
variable {s : State} {out : List Byte}

theorem exec_floorFrameSent_of_quiet (quiet : s.quiet = true) :
    exec .floorFrameSent s = .next s.floorFrameGone.finish := by
  show Host.Outcome.next s.settle.floorFrameGone.finish = _
  rw [settle_of_quiet quiet]

theorem floorFrameGone_of_sending {k : TxKind} {a : Nat} (going : s.line.out = some out)
    (hh : s.line.holder = .tx { kind := k, address := a, phase := .sending }) :
    s.floorFrameGone = s.setLine { s.line with
      holder := .tx { kind := k, address := a, phase := .window false }, out := none } := by
  simp only [State.floorFrameGone, going, hh]

theorem floorFrameGone_of_frame (going : s.line.out = some out) (hh : s.line.holder = .frame) :
    s.floorFrameGone = s.nextSlot := by
  simp only [State.floorFrameGone, going, hh]

theorem floorFrameGone_of_closing {k : TxKind} {a : Nat} {o : PollOutcome} (going : s.line.out = some out)
    (hh : s.line.holder = .tx { kind := k, address := a, phase := .closing o }) :
    s.floorFrameGone = s.txClosed { kind := k, address := a, phase := .closing o } o := by
  simp only [State.floorFrameGone, going, hh]

/-- The ACK or NAK of a cutter or reader poll's answer has gone: a reader's next poll is set (R135; log entry 8). -/
theorem floorFrameGone_of_closed_poll {st : Station} {o : PollOutcome} (going : s.line.out = some out)
    (hh : s.line.holder = .tx { kind := .poll, address := st.address, phase := .closing o })
    (hs : s.station? st.address = some st) :
    s.floorFrameGone = if st.kind = .reader then s.freeLine.putStation
      { st with nextPoll := some (secondsAfter s.seconds s.line.active.readerInterval) } else s.freeLine := by
  rw [floorFrameGone_of_closing going hh]
  exact readerPolled_of_some (s := s.freeLine) hs

/-- The NAK of an answer out of place in a command attempt has gone: the attempt has failed (R137; log entry 8). -/
theorem floorFrameGone_of_closed_command {a : Nat} {o : PollOutcome} {c : Command} {cs : List Command}
    (going : s.line.out = some out) (hh : s.line.holder = .tx { kind := .command, address := a, phase := .closing o })
    (hq : s.line.queue = c :: cs) :
    s.floorFrameGone = if c.attempts ≤ s.line.active.retries then s.freeLine
      else if c.orphan then s.freeLine.setLine { s.freeLine.line with queue := cs }
      else (s.freeLine.setLine { s.freeLine.line with queue := cs }).report c.failure := by
  rw [floorFrameGone_of_closing going hh]
  exact commandAttemptFailed_of_head (s := s.freeLine) hq

end Sent


/-! ### Slots of a broadcast (R142) -/

/-- A broadcast's slot is over: the next slot opens, or the line is free, with the missed list as given. -/
def State.slotOver (s : State) (b : Broadcast) (missed : List SlotRef) : State :=
  match b.slots with
  | [] => s.setLine { s.line with broadcast := some { b with missed := missed }, holder := .free, out := none }
  | q :: qs => s.setLine { s.line with
      broadcast := some { b with slots := qs, missed := missed }, holder := .slot q false, out := none }

theorem slotOver_of_next {s : State} {b : Broadcast} {q : SlotRef} {qs missed : List SlotRef} (hs : b.slots = q :: qs) :
    s.slotOver b missed = s.setLine { s.line with
      broadcast := some { b with slots := qs, missed := missed }, holder := .slot q false, out := none } := by
  simp only [State.slotOver, hs]

theorem nextSlot_of_none {s : State} {b : Broadcast} (hb : s.line.broadcast = some b) (hs : b.slots = []) :
    s.nextSlot = s.freeLine := by
  simp only [State.nextSlot, hb, hs]

theorem nextSlot_of_broadcast {s : State} {b : Broadcast} {missed : List SlotRef}
    (hb : s.line.broadcast = some { b with missed := missed }) : s.nextSlot = s.slotOver b missed := by
  cases hs : b.slots with
  | nil => simp only [State.nextSlot, State.slotOver, State.freeLine, hs, hb]
  | cons q qs => simp only [State.nextSlot, State.slotOver, hs, hb]

theorem slotOver_changeBroadcast (s : State) (f : Broadcast → Broadcast) (b : Broadcast) (missed : List SlotRef) :
    (s.changeBroadcast f).slotOver b missed = s.slotOver b missed := by
  unfold State.slotOver
  cases b.slots <;> rfl

/-- A station credited keeps its kind, so the rule of a slot reads the same (R133). -/
theorem creditStation_stationIs (s : State) (a address : Nat) (k : StationKind) :
    (s.creditStation a).stationIs address k = s.stationIs address k := by
  unfold State.creditStation State.stationIs
  split
  · rfl
  next st found =>
    rw [station_putStation]
    split
    next same => rw [← same, station_key found, found]; rfl
    next => rfl

@[simp] theorem creditStation_broadcast (s : State) (a : Nat) :
    (s.creditStation a).line.broadcast = s.line.broadcast := by
  unfold State.creditStation
  split <;> rfl

theorem cutterStands_of_broadcast {s : State} {b : Broadcast} (hb : s.line.broadcast = some b) (r : SlotRef) :
    s.cutterStands r = ((s.cutter? r.onCutter).any (fun c => c.address == r.address) && s.stationIs r.address .cutter &&
      !b.removed.contains r.onCutter) := by
  simp only [State.cutterStands, State.removedSince, hb, Option.any_some]

theorem slotStands_of_broadcast {s : State} {b : Broadcast} (hb : s.line.broadcast = some b) (r : SlotRef) :
    s.slotStands r = ((s.cutter? r.onCutter).any (fun c => c.address == r.address) && s.stationIs r.address .cutter &&
      !b.removed.contains r.onCutter && !b.rebound.contains r.onCutter) := by
  simp only [State.slotStands, cutterStands_of_broadcast hb, hb, Option.any_some]

theorem creditStation_slotStands (s : State) (a : Nat) (r : SlotRef) :
    (s.creditStation a).slotStands r = s.slotStands r := by
  simp only [State.slotStands, State.cutterStands, State.removedSince, creditStation_stationIs, creditStation_broadcast,
    cutter_of_same (State.creditStation_cutting s a)]

theorem slotMissed_of_broadcast {s : State} {b : Broadcast} (hb : s.line.broadcast = some b) (r : SlotRef) :
    s.slotMissed r = s.slotOver b (if s.slotStands r then b.missed ++ [r] else b.missed) := by
  unfold State.slotMissed
  split
  · rw [← slotOver_changeBroadcast s (fun b => { b with missed := b.missed ++ [r] })]
    exact nextSlot_of_broadcast (by simp [State.changeBroadcast, hb])
  · exact nextSlot_of_broadcast hb

theorem slotAcked_of_broadcast {s : State} {b : Broadcast} (hb : s.line.broadcast = some b) (r : SlotRef) :
    s.slotAcked r = (if s.slotStands r then (s.creditStation r.address).broadcastAcked b.kind r.onCutter
      else s.creditStation r.address).slotOver b b.missed := by
  simp only [State.slotAcked, hb, Option.map_some, Option.getD_some, creditStation_slotStands]
  refine nextSlot_of_broadcast ?_
  split <;> simp [hb]

section Slot
variable {s : State} {r : SlotRef} {e : Bool}

theorem arrival_of_slot (coming : s.line.receiving = some true) (hh : s.line.holder = .slot r e) (a : Nat) :
    s.arrival a = .inSlot r := by
  simp only [State.arrival, coming, hh]

theorem exec_floorAck_of_slot (quiet : s.quiet = true) (coming : s.line.receiving = some true)
    (hh : s.line.holder = .slot r e) : exec (.floorAck r.address) s = .next (s.hunt.slotAcked r).finish := by
  show Host.Outcome.next _ = _
  rw [settle_of_quiet quiet]
  simp only [State.goodFrame, arrival_of_slot coming hh, if_true]

theorem exec_floorNak_of_slot (quiet : s.quiet = true) (coming : s.line.receiving = some true)
    (hh : s.line.holder = .slot r e) :
    exec (.floorNak r.address) s = .next ((s.hunt.creditStation r.address).slotMissed r).finish := by
  show Host.Outcome.next _ = _
  rw [settle_of_quiet quiet]
  simp only [State.goodFrame, arrival_of_slot coming hh, notAck, State.slotOther, if_true]

theorem exec_badFloorFrame_of_slot (quiet : s.quiet = true) (coming : s.line.receiving = some true)
    (hh : s.line.holder = .slot r e) : exec .badFloorFrame s = .next (s.hunt.slotMissed r).finish := by
  have held : s.hunt.line.holder = .slot r e := hh
  show Host.Outcome.next s.settle.badFrame.finish = _
  rw [settle_of_quiet quiet]
  simp only [State.badFrame, coming, held]

theorem exec_responseWindowExpired_of_slot (quiet : s.quiet = true) (nothing : s.line.receiving = none)
    (hh : s.line.holder = .slot r false) : exec .responseWindowExpired s = .next (s.slotMissed r).finish := by
  show Host.Outcome.next s.settle.windowExpires.finish = _
  rw [settle_of_quiet quiet]
  simp [State.windowExpires, hh, nothing]

end Slot

/-! ### Addressed retries and the end of a broadcast (R134, R141, R143; log entry 14) -/

section Retries
variable {s : State} {b : Broadcast} {r : SlotRef} {rest : List SlotRef}

/-- The arbiter passes over a demand and looks again; its looks are counted down by one. -/
theorem grant_of_passed {t : State} (free : s.line.holder = .free) (move : s.grantStep = some (t, true))
    (looks : (s.line.broadcast.map fun b => b.missed.length).getD 0 + s.line.queue.length +
        s.water.engine.scanList.length =
      (t.line.broadcast.map fun b => b.missed.length).getD 0 + t.line.queue.length + t.water.engine.scanList.length + 1) :
    s.grant = t.grant := by
  rw [State.grant, State.grant, looks, Nat.add_right_comm _ 1 5]
  rw [State.grantTimes, if_pos free, move]

/-- The head of the missed list that stands is sent its addressed retry. -/
theorem finish_of_retry (free : s.line.holder = .free) (hb : s.line.broadcast = some b) (begun : b.begun = true)
    (head : b.missed = r :: rest) (stands : s.cutterStands r = true) :
    s.finish.line = { s.line with
      holder := .tx { kind := .retry r, address := r.address, phase := .sending }
      out := some (broadcastFrame r.address b.kind), broadcast := some { b with attempts := b.attempts + 1 } } := by
  have move : s.grantStep = some
      ((s.setLine { s.line with broadcast := some { b with attempts := b.attempts + 1 } }).openTx (.retry r) r.address
        (broadcastFrame r.address b.kind), false) := by
    simp [State.grantStep, hb, begun, head, stands]
  rw [State.finish, outputStart_line, grant_of_handed free move]
  rfl

/-- The head of the missed list that stands no more leaves it, and the arbiter goes on. -/
theorem finish_of_gone (free : s.line.holder = .free) (hb : s.line.broadcast = some b) (begun : b.begun = true)
    (head : b.missed = r :: rest) (gone : s.cutterStands r = false) :
    s.finish = (s.setLine { s.line with broadcast := some { b with missed := rest, attempts := 0 } }).finish := by
  have move : s.grantStep = some
      (s.setLine { s.line with broadcast := some { b with missed := rest, attempts := 0 } }, true) := by
    simp [State.grantStep, hb, begun, head, gone]
  rw [State.finish, State.finish, grant_of_passed free move]
  simp only [hb, head, State.setLine_line, State.setLine_water, Option.map_some, Option.getD_some, List.length_cons]
  omega

/-- With the missed list empty the broadcast ends, and the arbiter has looks left. -/
theorem grant_of_ended (free : s.line.holder = .free) (hb : s.line.broadcast = some b) (begun : b.begun = true)
    (empty : b.missed = []) : ∃ n, s.grant = s.endBroadcast.grantTimes (n + 1) := by
  have move : s.grantStep = some (s.endBroadcast, true) := by simp [State.grantStep, hb, begun, empty]
  refine ⟨(s.line.broadcast.map fun b => b.missed.length).getD 0 + s.line.queue.length +
    s.water.engine.scanList.length + 3, ?_⟩
  rw [State.grant, State.grantTimes, if_pos free, move]

/-- The pending order starts the next broadcast (R141). -/
theorem grant_of_pending {k : BroadcastKind} (free : s.line.holder = .free) (hb : s.line.broadcast = some b)
    (begun : b.begun = true) (empty : b.missed = []) (pending : s.line.pendingBroadcast = some k) :
    s.grant = s.endBroadcast.beginBroadcast (.ordered k) := by
  obtain ⟨n, ended⟩ := grant_of_ended free hb begun empty
  have free' : s.endBroadcast.line.holder = .free := free
  have waits : s.endBroadcast.line.broadcast = some (.ordered k) := by simp [State.endBroadcast, pending, Broadcast.ordered]
  have move : s.endBroadcast.grantStep = some (s.endBroadcast.beginBroadcast (.ordered k), false) := by
    simp [State.grantStep, waits, Broadcast.ordered]
  rw [ended, State.grantTimes, if_pos free', move]

end Retries

/-! ### The arbiter orders no broadcast (R134, R141) -/

/-- Neither a broadcast nor a pending order stands. -/
def State.noBroadcast (s : State) : Prop := s.line.broadcast = none ∧ s.line.pendingBroadcast = none

theorem grantPoll_noBroadcast {s t : State} {again : Bool} (h : s.noBroadcast) (move : s.grantPoll = some (t, again)) :
    t.noBroadcast := by
  unfold State.grantPoll at move
  dsimp only at move
  (repeat' split at move) <;> cases move
  · exact h
  · rw [State.noBroadcast, State.engineAdvance_line]; exact h
  · rw [State.noBroadcast, State.engineAdvance_line]; exact h
  · exact h

theorem grantStep_noBroadcast {s t : State} {again : Bool} (h : s.noBroadcast) (move : s.grantStep = some (t, again)) :
    t.noBroadcast := by
  obtain ⟨hb, pending⟩ := h
  cases hq : s.line.queue with
  | nil =>
    rw [grantStep_of_polls hb hq] at move
    exact grantPoll_noBroadcast (s := s.startDuePass) (by simp [State.noBroadcast, hb, pending]) move
  | cons c cs =>
    cases station : s.sendableTo c with
    | some a =>
      rw [grantStep_of_sendable hb hq station] at move
      cases move
      exact ⟨hb, pending⟩
    | none =>
      rw [grantStep_of_unsendable hb hq station] at move
      cases move
      obtain ⟨r, line⟩ := commandFailed_line (s.setLine { s.line with queue := cs }) c
      rw [State.noBroadcast, line]
      exact ⟨hb, pending⟩

theorem grantTimes_noBroadcast (n : Nat) {s : State} (h : s.noBroadcast) : (s.grantTimes n).noBroadcast := by
  induction n generalizing s with
  | zero => exact h
  | succ n ih =>
    unfold State.grantTimes
    split
    · split
      next t move => exact ih (grantStep_noBroadcast h move)
      next t move => exact grantStep_noBroadcast h move
      next => exact h
    · exact h

/-! ### Expected cutters (R142) -/

theorem mem_expectedCutters {s : State} {r : SlotRef} :
    r ∈ s.expectedCutters ↔ ∃ st ∈ s.line.roster, ∃ c, st.address = r.address ∧ st.kind = .cutter ∧
      st.link ≠ .unreachable ∧ s.cutterAt st.address = some c ∧ c.number = r.onCutter := by
  obtain ⟨n, a⟩ := r
  simp only [State.expectedCutters, List.mem_filterMap, Option.ite_none_right_eq_some, Option.map_eq_some_iff,
    SlotRef.mk.injEq]
  refine exists_congr fun st => and_congr_right fun _ => ⟨?_, ?_⟩
  · rintro ⟨⟨kind, link⟩, c, bound, number, address⟩
    exact ⟨c, address, kind, link, bound, number⟩
  · rintro ⟨c, address, kind, link, bound, number⟩
    exact ⟨⟨kind, link⟩, c, bound, number, address⟩

theorem expectedCutters_ascending {s : State} (h : s.line.roster.Pairwise fun a b => a.address < b.address) :
    s.expectedCutters.Pairwise fun a b => a.address < b.address := by
  refine List.Pairwise.filterMap _ (fun st st' less r hr r' hr' => ?_) h
  simp only [Option.ite_none_right_eq_some, Option.map_eq_some_iff] at hr hr'
  obtain ⟨-, _, -, rfl⟩ := hr
  obtain ⟨-, _, -, rfl⟩ := hr'
  exact less

/-! ### The line port's frames -/

/-- Settles O49: what each frame does at the line port, each slot's end by the one rule that tells whether it still has its
cutter, and the arbiter's moves behind the slots. -/
theorem linePortFollowsItsFrames : Obligations.LinePortFollowsItsFrames := by
  refine ⟨fun s => exec_floorFrameBegin_of_held, ?gone, ?slots, ?retries, ?begins, ?expected⟩
  case gone =>
    intro s out quiet going free
    rw [exec_floorFrameSent_of_quiet quiet]
    refine ⟨fun k a hh => ?_, fun b r rs hh hb hs => ?_, fun b hh hb hs => ?_, fun a o st hh hs => ?_,
      fun a o c cs hh hq => ?_⟩
    · rw [floorFrameGone_of_sending going hh]
      exact ⟨_, rfl, setLine_finish_line nofun, unchanged_setLine_finish nofun rfl rfl rfl rfl rfl⟩
    · rw [floorFrameGone_of_frame going hh, nextSlot_of_broadcast (missed := b.missed) hb, slotOver_of_next hs]
      exact ⟨_, rfl, setLine_finish_line nofun, unchanged_setLine_finish nofun rfl rfl rfl rfl rfl⟩
    · rw [floorFrameGone_of_frame going hh, nextSlot_of_none hb hs]
      rfl
    · obtain rfl := station_key hs
      rw [floorFrameGone_of_closed_poll going hh hs]
      rfl
    · rw [floorFrameGone_of_closed_command going hh hq]
      rfl
  case slots =>
    intro s r e b quiet hh hb stands next passed credited
    have rule (u : State) (same : u = s ∨ u = s.hunt) : u.slotStands r = stands := by
      rcases same with rfl | rfl <;> exact slotStands_of_broadcast hb r
    have moves (w : State) (missed : List SlotRef) : next w missed = (w.slotOver b missed).finish := rfl
    refine ⟨fun coming => ?ack, fun coming => ?nak, fun coming => ?bad, fun nothing running => ?expired⟩
    case ack =>
      rw [exec_floorAck_of_slot quiet coming hh, slotAcked_of_broadcast (s := s.hunt) hb, rule _ (.inr rfl), moves]
    case nak =>
      rw [exec_floorNak_of_slot quiet coming hh, slotMissed_of_broadcast ((creditStation_broadcast s.hunt _).trans hb),
        creditStation_slotStands, rule _ (.inr rfl), moves]
    case bad =>
      rw [exec_badFloorFrame_of_slot quiet coming hh, slotMissed_of_broadcast (s := s.hunt) hb, rule _ (.inr rfl), moves]
    case expired =>
      subst running
      rw [exec_responseWindowExpired_of_slot quiet nothing hh, slotMissed_of_broadcast hb, rule _ (.inl rfl), moves]
  case retries =>
    intro s b free hb begun
    refine ⟨fun r rest head => ?retried, fun empty => ?ended⟩
    case retried =>
      rw [← cutterStands_of_broadcast hb r]
      exact ⟨finish_of_retry free hb begun head, finish_of_gone free hb begun head⟩
    case ended =>
      rw [State.finish, outputStart_line]
      cases pending : s.line.pendingBroadcast with
      | none =>
        obtain ⟨n, ended⟩ := grant_of_ended free hb begun empty
        have clear : s.endBroadcast.noBroadcast := ⟨by simp [State.endBroadcast, pending], rfl⟩
        obtain ⟨broadcast, order⟩ := grantTimes_noBroadcast (n + 1) clear
        rw [ended]
        exact ⟨order, fun _ => broadcast, nofun⟩
      | some k =>
        rw [grant_of_pending free hb begun empty pending]
        refine ⟨rfl, nofun, fun k' same => ?_⟩
        cases same
        exact ⟨rfl, rfl, rfl⟩
  case begins => exact fun s b free hb begun => (finish_of_waiting_broadcast free hb begun).1
  case expected => exact fun s => ⟨fun r => mem_expectedCutters, expectedCutters_ascending⟩

end Sys2Proof.Machine
end

section
/-! PROOFS. The bytes of office items (spec/10): what is written of a number, of an operand that may be absent and of a list
is read back, and so is every item. -/

namespace Sys2Proof

/-! ### Readers and writers of one layout (R179) -/

/-- A reader takes back what the writer of its layout wrote of a value that fits, and leaves the bytes behind it. -/
def ReadsBack {α : Type} (rd : List Byte → Option (α × List Byte)) (be : α → List Byte) (fits : α → Bool) : Prop :=
  ∀ a l, fits a = true → rd (be a ++ l) = some (a, l)

section Layouts
variable {α : Type} {rd : List Byte → Option (α × List Byte)} {be : α → List Byte} {fits : α → Bool}

theorem ReadsBack.read (h : ReadsBack rd be fits) {a : α} (ha : fits a = true) (l : List Byte) :
    rd (be a ++ l) = some (a, l) := h a l ha

theorem ReadsBack.last (h : ReadsBack rd be fits) {a : α} (ha : fits a = true) : rd (be a) = some (a, []) := by
  simpa using h.read ha []

/-- A layout that goes on behind the value goes on with the value in hand. -/
theorem ReadsBack.bind {β : Type} (h : ReadsBack rd be fits) {a : α} (ha : fits a = true) (l : List Byte)
    (k : α × List Byte → Option β) : (rd (be a ++ l) >>= k) = k (a, l) := by
  rw [h.read ha]
  rfl

theorem ReadsBack.many (h : ReadsBack rd be fits) (as : List α) (l : List Byte) (has : as.all fits = true) :
    rdMany rd as.length (as.flatMap be ++ l) = some (as, l) := by
  induction as with
  | nil => rfl
  | cons a as ih =>
    simp only [List.all_cons, Bool.and_eq_true] at has
    obtain ⟨ha, has⟩ := has
    simp [rdMany, h.read ha, ih has]

end Layouts

section Operands
variable {rd : List Byte → Option (Nat × List Byte)} {be : Nat → List Byte} {fits : Nat → Bool}

/-- An operand that may be absent is read back by its presence bit (R182). -/
theorem ReadsBack.opt (h : ReadsBack rd be fits) {o : Option Nat} (ho : fitsOpt fits o = true) (l : List Byte) :
    rdOpt o.isSome rd (beOpt be o ++ l) = some (o, l) := by
  cases o with
  | none => rfl
  | some n => simp [rdOpt, beOpt, h.read ho]

theorem ReadsBack.optLast (h : ReadsBack rd be fits) {o : Option Nat} (ho : fitsOpt fits o = true) :
    rdOpt o.isSome rd (beOpt be o) = some (o, []) := by
  simpa using h.opt ho []

end Operands

/-! ### Numbers (R179) -/

theorem toNat_byte (n : Nat) : (BitVec.ofNat 8 n).toNat = n % 256 := BitVec.toNat_ofNat n 8

theorem be1_readsBack : ReadsBack rd1 be1 fits1 := by
  intro n l h
  have range : n < 256 := by simpa [fits1] using h
  simp only [be1, List.cons_append, List.nil_append, rd1, toNat_byte, Option.some.injEq, Prod.mk.injEq, and_true]
  omega

theorem be2_readsBack : ReadsBack rd2 be2 fits2 := by
  intro n l h
  have range : n < 65536 := by simpa [fits2] using h
  simp only [be2, List.cons_append, List.nil_append, rd2, toNat_byte, Option.some.injEq, Prod.mk.injEq, and_true]
  omega

theorem be4_readsBack : ReadsBack rd4 be4 fits4 := by
  intro n l h
  have range : n < 4294967296 := by simpa [fits4] using h
  simp only [be4, List.cons_append, List.nil_append, rd4, toNat_byte, Option.some.injEq, Prod.mk.injEq, and_true]
  omega

section Numbers
variable {n : Nat} {o : Option Nat} (l : List Byte)

@[simp] theorem rd1_be1 (h : fits1 n = true) : rd1 (be1 n ++ l) = some (n, l) := be1_readsBack.read h l
@[simp] theorem rd1_be1_last (h : fits1 n = true) : rd1 (be1 n) = some (n, []) := be1_readsBack.last h
@[simp] theorem rd2_be2 (h : fits2 n = true) : rd2 (be2 n ++ l) = some (n, l) := be2_readsBack.read h l
@[simp] theorem rd2_be2_last (h : fits2 n = true) : rd2 (be2 n) = some (n, []) := be2_readsBack.last h
@[simp] theorem rd4_be4 (h : fits4 n = true) : rd4 (be4 n ++ l) = some (n, l) := be4_readsBack.read h l
@[simp] theorem rd4_be4_last (h : fits4 n = true) : rd4 (be4 n) = some (n, []) := be4_readsBack.last h

@[simp] theorem rdOpt_be1 (h : fitsOpt fits1 o = true) : rdOpt o.isSome rd1 (beOpt be1 o ++ l) = some (o, l) :=
  be1_readsBack.opt h l
@[simp] theorem rdOpt_be1_last (h : fitsOpt fits1 o = true) : rdOpt o.isSome rd1 (beOpt be1 o) = some (o, []) :=
  be1_readsBack.optLast h
@[simp] theorem rdOpt_be2 (h : fitsOpt fits2 o = true) : rdOpt o.isSome rd2 (beOpt be2 o ++ l) = some (o, l) :=
  be2_readsBack.opt h l
@[simp] theorem rdOpt_be2_last (h : fitsOpt fits2 o = true) : rdOpt o.isSome rd2 (beOpt be2 o) = some (o, []) :=
  be2_readsBack.optLast h
@[simp] theorem rdOpt_be4 (h : fitsOpt fits4 o = true) : rdOpt o.isSome rd4 (beOpt be4 o ++ l) = some (o, l) :=
  be4_readsBack.opt h l

@[simp] theorem rdDone_nil {α : Type} (a : α) : rdDone a [] = some a := rfl

end Numbers

/-! ### Lists behind their count byte (R179, R182) -/

theorem ReadsBack.counted {α : Type} {rd : List Byte → Option (α × List Byte)} {be : α → List Byte} {fits : α → Bool}
    (h : ReadsBack rd be fits) {as : List α} (count : fits1 as.length = true) (has : as.all fits = true) :
    rdCounted rd (be1 as.length ++ as.flatMap be) = some (as, []) := by
  simpa [rdCounted, count] using h.many as [] has

theorem beStep_readsBack : ReadsBack rdStep beStep RawStep.wf := by
  intro st l h
  simp only [RawStep.wf, Bool.and_eq_true] at h
  simp [rdStep, beStep, h]

/-! ### Presence bytes (R182) -/

theorem presence_lt (os : List (Option Nat)) : presence os < 2 ^ os.length := by
  induction os with
  | nil => exact Nat.one_pos
  | cons o os ih =>
    simp only [presence, List.length_cons, Nat.pow_succ]
    split <;> omega

@[simp] theorem presence_lt_of_length {os : List (Option Nat)} {n : Nat} (h : 2 ^ os.length ≤ n) : presence os < n :=
  (presence_lt os).trans_le h

@[simp] theorem presence_one_le (o : Option Nat) : presence [o] ≤ 1 := Nat.le_of_lt_succ (presence_lt [o])

/-- The presence bits of at most eight operands fit the byte. -/
@[simp] theorem presence_byte {os : List (Option Nat)} (short : os.length ≤ 8) : presence os % 256 = presence os :=
  Nat.mod_eq_of_lt ((presence_lt os).trans_le (Nat.pow_le_pow_right (by decide) short))

/-- Each operand's bit says whether it is there; the first one's is the lowest, so it makes the byte odd. -/
@[simp] theorem presence_testBit (os : List (Option Nat)) (i : Nat) :
    (presence os).testBit i = os[i]?.any Option.isSome := by
  induction os generalizing i with
  | nil => simp [presence]
  | cons o os ih =>
    cases i with
    | zero => cases o <;> simp [presence, Nat.testBit_zero]
    | succ i =>
      have half : presence (o :: os) / 2 = presence os := by simp only [presence]; split <;> omega
      simp [Nat.testBit_succ, half, ih]

@[simp] theorem presence_odd_iff (o : Option Nat) (os : List (Option Nat)) :
    presence (o :: os) % 2 = 1 ↔ o.isSome = true := by
  simp only [presence]
  split <;> simp_all

/-! ### Items (R182) -/

theorem decodeOne_readsBack {rd : List Byte → Option (Nat × List Byte)} {be : Nat → List Byte} {fits : Nat → Bool}
    (h : ReadsBack rd be fits) (mk : Option Nat → Instr) {a : Option Nat} (ha : fitsOpt fits a = true) :
    decodeOne (presence [a]) rd mk (beOpt be a) = some (mk a) := by
  simp [decodeOne, h.optLast ha]

theorem decodeTwo_readsBack {rdA rdB : List Byte → Option (Nat × List Byte)} {beA beB : Nat → List Byte}
    {fitsA fitsB : Nat → Bool} (hA : ReadsBack rdA beA fitsA) (hB : ReadsBack rdB beB fitsB)
    (mk : Option Nat → Option Nat → Instr) {a b : Option Nat} (ha : fitsOpt fitsA a = true)
    (hb : fitsOpt fitsB b = true) :
    decodeTwo (presence [a, b]) rdA rdB mk (beOpt beA a ++ beOpt beB b) = some (mk a b) := by
  simp [decodeTwo, hA.opt ha, hB.optLast hb]

/-- Settles O60, by the layout of the operands: none, one or two that may be absent, lists, and the layouts of each area.
An event has no bytes, so nothing is to be read back. -/
theorem itemsReadBackAsWritten : Obligations.ItemsReadBackAsWritten := by
  intro i r wf written
  cases i <;> cases written
  case contextClear | scanStop | lineHold | lineRelease | floorRestart | readRoster | readWater | readAlarms | takeAlarm =>
    rfl
  case useJob o | useCutter o | abort o | unload o | toolChange o | clearFault o | jobClose o | readCutter o
      | readJob o =>
    simp [decodeItem, rawItem, decodeWork, decodeOne_readsBack be1_readsBack _ wf]
  case useSlab o | release o | discard o | planClear o | readSlab o | readPlan o =>
    simp [decodeItem, rawItem, decodeStockPlan, decodeOne_readsBack be4_readsBack _ wf]
  all_goals simp only [Instr.wf, Bool.and_eq_true] at wf
  case reserve =>
    obtain ⟨slab, job⟩ := wf
    simp [decodeItem, rawItem, decodeStockPlan, decodeTwo_readsBack be4_readsBack be1_readsBack _ slab job]
  case jobOpen | jobQuote =>
    obtain ⟨job, quote⟩ := wf
    simp [decodeItem, rawItem, decodeTwo_readsBack be1_readsBack be4_readsBack _ job quote]
  case planLoad =>
    obtain ⟨⟨⟨slab, kerf⟩, count⟩, entries⟩ := wf
    simp [decodeItem, rawItem, decodeStockPlan, slab, kerf, beStep_readsBack.counted count entries]
  case scanList =>
    obtain ⟨count, entries⟩ := wf
    simp [decodeItem, rawItem, decodeWater, be1_readsBack.counted count entries]
  case price | findRemnant | remnantLimits | skip | verdict | tolerance =>
    simp [decodeItem, rawItem, decodeStockPlan, wf]
  case load | cut =>
    simp [decodeItem, rawItem, decodeWork, wf]
  case scanStart | channelLimits | waterRoles | waterMarks =>
    simp [decodeItem, rawItem, decodeWater, wf]
  case shopRates | readChannel =>
    simp [decodeItem, rawItem, wf]
  case station | stationRemove | lineSettings | alarmAction | origin | originRemove | openLevel =>
    simp [decodeItem, rawItem, decodeTable, wf]
  case cutterRemove =>
    simp [decodeItem, rawItem, decodeTable, decodeCutter, wf]
  case cutter =>
    have spelled (l : List Byte) : decodeItem (rawItem 100 0 l) = decodeCutter 0 l := by
      simp [decodeItem, rawItem, decodeTable]
    simp only [spelled, decodeCutter, if_true, List.append_assoc, wf, ↓be1_readsBack.bind, ↓be2_readsBack.bind,
      ↓be4_readsBack.bind]
    simp [wf]
  case channel | channelRemove =>
    simp [decodeItem, rawItem, decodeTable, decodeChannel, wf]

end Sys2Proof
end

section
/-! PROOFS. The step of the part (log entry 1). -/

namespace Sys2Proof.Machine

/-- Settles O1: with a command at the front, `step` takes its second branch, whose command and rest are those of the
queue. -/
theorem stepRunsTheFrontCommand : Obligations.StepRunsTheFrontCommand := by
  intro c s rest front
  rw [step, front]

end Sys2Proof.Machine
end

section
/-! PROOFS. Cutters and their items (spec/03): TOOL CHANGE, CLEAR FAULT, CUTTER with its removal. -/

namespace Sys2Proof.Machine

/-! ### Items that name a cutter (R155, R166) -/

section Named
variable {s : State} {operand : Option Nat} {ctx : Context} {k : Cutter → Owned} {n : Nat}

theorem needCutter_of_unnamed (named : orContext operand ctx.onCutter = none) :
    needCutter s operand ctx k = .refused .noContext := by
  rw [needCutter, named, need_none]

theorem needCutter_of_outOfRange (named : orContext operand ctx.onCutter = some n) (out : cutterRange n = false) :
    needCutter s operand ctx k = .refused .badValue := by
  rw [needCutter, named, need_some, out, ensure_false]

theorem needCutter_of_undefined (named : orContext operand ctx.onCutter = some n) (range : cutterRange n = true)
    (undefined : s.cutter? n = none) : needCutter s operand ctx k = .refused .noSuch := by
  rw [needCutter, named, need_some, range, ensure_true, undefined, need_none]

end Named

theorem cutterRange_iff {n : Nat} : cutterRange n = true ↔ 1 ≤ n ∧ n ≤ 8 := by simp [cutterRange]

theorem cutterRange_eq_false {n : Nat} (out : ¬(1 ≤ n ∧ n ≤ 8)) : cutterRange n = false :=
  Bool.eq_false_iff.2 fun range => out (cutterRange_iff.1 range)

/-! ### Items that rewrite one cutter record -/

/-- What is no more than another cutter table or record pool leaves every other part as it was. -/
theorem unchanged_setCutting (s : State) (x : Cutting) : Unchanged [.cutting] s (s.setCutting x) := by
  intro p hp
  cases p <;> simp_all [Part.same]

/-- A cutter rewritten and the item answered: the other cutters, the records and the last-assigned id are as they were, and
so is every other part. -/
theorem putCutter_replied (s : State) {c : Cutter} {n : Nat} (number : c.number = n) (h : InHand) (rest : List RawItem) :
    let t := replied (s.putCutter c) h rest .ok []
    t.cutter? n = some c ∧ (∀ k, k ≠ n → t.cutter? k = s.cutter? k) ∧ t.cutting.records = s.cutting.records ∧
      t.cutting.lastId = s.cutting.lastId ∧ Answered s t h rest ⟨.ok, []⟩ ∧ Unchanged [.cutting] s t := by
  subst number
  refine ⟨?_, fun k other => ?_, ?_, ?_, answered_replied rfl,
    unchanged_replied (unchanged_setCutting s _) rfl (.inl (by decide))⟩
  · rw [replied_cutter?, cutter_putCutter, if_pos rfl]
  · rw [replied_cutter?, cutter_putCutter, if_neg (Ne.symm other)]
  · rw [replied_cutting]; rfl
  · rw [replied_cutting]; rfl

/-! ### TOOL CHANGE and CLEAR FAULT (R53, R54) -/

/-- A new tool with any life is GOOD (R46). -/
theorem toolStateOf_new {life : Nat} (some : 1 ≤ life) : toolStateOf life life = .good := by
  rw [toolStateOf, if_neg (by omega), if_neg (by omega)]

/-- Settles O30: a case for each refusal of TOOL CHANGE, and the one rewritten record of a cutter that is not WORKING. -/
theorem toolChangeRenewsTheTool : Obligations.ToolChangeRenewsTheTool := by
  intro s h rest o operand ready
  refine ⟨s.itemStep (.toolChange operand) .work (toolChangeItem operand), rfl, ?_⟩
  cases named : orContext operand o.ctx.onCutter with
  | none => exact itemStep_refuses ready (needCutter_of_unnamed named)
  | some n =>
    dsimp only
    split
    next range =>
      rw [← cutterRange_iff] at range
      cases found : s.cutter? n with
      | none => exact itemStep_refuses ready (needCutter_of_undefined named range found)
      | some c =>
        have number : c.number = n := cutter_key found
        have owned := needCutter_found (k := fun c => ensure (c.state != .working) .wrongState
          (.ok (s.putCutter { c with life := c.settings.newLife }))) named range found
        dsimp only
        split
        next working => exact itemStep_refuses ready (owned.trans (by rw [working]; rfl))
        next still =>
          rw [itemStep_taken ready (owned.trans (by rw [bne_iff_ne.2 still]; rfl))]
          obtain ⟨cutter, others, records, lastId, answered, unchanged⟩ :=
            putCutter_replied s (c := { c with life := c.settings.newLife }) number h rest
          exact ⟨cutter, fun some => by rw [cutter]; exact congrArg _ (toolStateOf_new some), others, records, lastId,
            answered, unchanged⟩
    next out => exact itemStep_refuses ready (needCutter_of_outOfRange named (cutterRange_eq_false out))

/-- Settles O31: CLEAR FAULT has one check, and rewrites the state of a FAULTED cutter alone. -/
theorem clearFaultReturnsTheCutter : Obligations.ClearFaultReturnsTheCutter := by
  intro s h rest o operand n c ready named range found
  have number : c.number = n := cutter_key found
  have owned := needCutter_found (k := fun c => ensure (c.state == .faulted) .wrongState
    (.ok (s.putCutter { c with state := if c.slab.isSome then .loaded else .idle }))) named range found
  refine ⟨s.itemStep (.clearFault operand) .work (clearFaultItem operand), rfl, fun faulted => ?_, fun other => ?_⟩
  · have returned : (if c.slab.isSome = true then CutterState.loaded else .idle) =
        if c.slab = none then .idle else .loaded := by cases c.slab <;> rfl
    rw [returned] at owned
    rw [itemStep_taken ready (owned.trans (by rw [faulted]; rfl))]
    obtain ⟨cutter, others, records, -, answered, unchanged⟩ := putCutter_replied s
      (c := { c with state := if c.slab = none then .idle else .loaded }) number h rest
    exact ⟨cutter, others, records, answered, unchanged⟩
  · exact itemStep_refuses ready (owned.trans (by rw [beq_eq_false_iff_ne.2 other]; rfl))

/-! ### CUTTER and its removal (R48, R49) -/

/-- An item that keeps what holds the line keeps the links as busy as they were: what it leaves, its answer leaves. -/
theorem unchanged_replied_of_holder {but : List Part} {s after : State} {h : InHand} {rest : List RawItem}
    {c : ResultCode} {d : List Byte} (u : Unchanged but s after) (office : after.office = s.office)
    (holder : after.line.holder = s.line.holder) : Unchanged but s (replied after h rest c d) := by
  intro p hp
  by_cases reports : p = .reports
  · subst reports
    intro held sends
    rw [replied_alarms_of_busy (by rw [holder]; exact held) (by rw [office]; exact sends)]
    exact u .reports hp held sends
  · exact unchanged_replied (u.mono (List.subset_cons_self Part.reports but)) office (.inr List.mem_cons_self) p
      (List.not_mem_cons_of_ne_of_not_mem reports hp)

/-- A cutter table or record pool and the broadcast in progress rewritten, and the item answered: with the line held
nothing else happens at the line port (R134). -/
theorem cutting_broadcast_replied (s : State) (x : Cutting) (f : Broadcast → Broadcast) (h : InHand)
    (rest : List RawItem) :
    let t := replied ((s.setCutting x).changeBroadcast f) h rest .ok []
    Answered s t h rest ⟨.ok, []⟩ ∧ Unchanged [.cutting, .floor] s t ∧
      (s.line.holder ≠ .free → t.water.engine = s.water.engine ∧
        t.line = { s.line with broadcast := s.line.broadcast.map f }) := by
  have unchanged : Unchanged [.cutting, .floor] s ((s.setCutting x).changeBroadcast f) := by
    intro p hp
    cases p <;> simp_all [Part.same, State.changeBroadcast]
  refine ⟨answered_replied rfl, unchanged_replied_of_holder unchanged rfl rfl, fun held => ?_⟩
  rw [replied_water_of_held (s := (s.setCutting x).changeBroadcast f) held,
    replied_line_of_held (s := (s.setCutting x).changeBroadcast f) held]
  exact ⟨rfl, rfl⟩

theorem removeCutter_cutter? (s : State) (n k : Nat) :
    (s.removeCutter n).cutter? k = if n = k then none else s.cutter? k := lookup_remove Cutter.number _

/-- With no other cutter at an address, the cutter's removal frees it (R49). -/
theorem removeCutter_frees {s : State} {n a : Nat}
    (only : ∀ d ∈ s.cutting.cutters, d.address = a → d.number = n) : (s.removeCutter n).cutterAt a = none := by
  refine List.find?_eq_none.2 fun d hd bound => ?_
  obtain ⟨stood, other⟩ := List.mem_filter.1 (show d ∈ remove Cutter.number n s.cutting.cutters from hd)
  exact bne_iff_ne.1 other (only d stood (beq_iff_eq.1 bound))

/-- Settles O36: a case for each refusal of the removal, and the removal of an IDLE cutter. -/
theorem cutterRemovalFreesItsAddress : Obligations.CutterRemovalFreesItsAddress := by
  intro s h rest o n ready
  refine ⟨s.itemStep (.cutterRemove n) .table (cutterRemoveItem n), rfl, ?_⟩
  split
  next range =>
    rw [← cutterRange_iff] at range
    cases found : s.cutter? n with
    | none =>
      exact itemStep_refuses ready (by rw [cutterRemoveItem, range, ensure_true, found, need_none])
    | some c =>
      have owned : cutterRemoveItem n o s = ensure (c.state == .idle) .wrongState (.ok (s.removeCutter n)) := by
        rw [cutterRemoveItem, range, ensure_true, found, need_some]
      dsimp only
      split
      next idle =>
        rw [itemStep_taken ready (owned.trans (by rw [idle]; rfl))]
        obtain ⟨answered, unchanged, line⟩ := cutting_broadcast_replied s
          { s.cutting with cutters := remove Cutter.number n s.cutting.cutters }
          (fun b => { b with removed := b.removed.insert n }) h rest
        refine ⟨?_, fun k other => ?_, fun only => ?_, ?_, ?_, answered, unchanged, line⟩
        · rw [replied_cutter?, removeCutter_cutter?, if_pos rfl]
        · rw [replied_cutter?, removeCutter_cutter?, if_neg (Ne.symm other)]
        · rw [State.cutterAt, replied_cutting]
          exact removeCutter_frees only
        · rw [replied_cutting]; rfl
        · rw [replied_entries]; rfl
      next busy => exact itemStep_refuses ready (owned.trans (by rw [beq_eq_false_iff_ne.2 busy]; rfl))
  next out => exact itemStep_refuses ready (by rw [cutterRemoveItem, cutterRange_eq_false out, ensure_false])

theorem cutterKindOf_code (k : CutterKind) : cutterKindOf k.code = some k := by cases k <;> rfl

section Define
variable {s : State} {n a : Nat} {kind : CutterKind} {st : CutterSettings} (o : Origin)
  (number : cutterRange n = true) (address : addressRange a = true) (settings : st.inRange = true)
  (free : (s.cutting.cutters.any fun c => c.address == a && c.number != n) = false)
include number address settings free

/-- CUTTER with its fields in range and its address free defines a cutter in an empty place (R48). -/
theorem cutterItem_of_undefined (undefined : s.cutter? n = none) :
    cutterItem n a kind.code st o s = .ok (s.putCutter (Cutter.fresh n a kind st)) := by
  rw [cutterItem, cutterKindOf_code, need_some, number, address, settings, free, undefined]
  rfl

/-- In a place that is taken it asks for an IDLE cutter, and gives it new settings (R48). -/
theorem cutterItem_of_defined {c : Cutter} (found : s.cutter? n = some c) :
    cutterItem n a kind.code st o s =
      ensure (c.state == .idle) .wrongState (.ok (s.redefineCutter c a kind st)) := by
  rw [cutterItem, cutterKindOf_code, need_some, number, address, settings, free, found]
  rfl

end Define

/-- An IDLE cutter redefined and the item answered (R48): with a change of address the broadcast in progress notes it. -/
theorem redefineCutter_replied {s : State} {n : Nat} {c : Cutter} (found : s.cutter? n = some c) (a : Nat)
    (kind : CutterKind) (st : CutterSettings) (h : InHand) (rest : List RawItem) :
    let t := replied (s.redefineCutter c a kind st) h rest .ok []
    Answered s t h rest ⟨.ok, []⟩ ∧ Unchanged [.cutting, .floor] s t ∧
      (s.line.holder ≠ .free → t.water.engine = s.water.engine ∧ t.line = (if a = c.address then s.line
        else { s.line with
          broadcast := s.line.broadcast.map fun b => { b with rebound := b.rebound.insert n } })) := by
  obtain rfl := cutter_key found
  intro t
  have redefined : t = replied (s.redefineCutter c a kind st) h rest .ok [] := rfl
  rw [State.redefineCutter] at redefined
  split at redefined
  next stays =>
    obtain ⟨-, -, -, -, answered, unchanged⟩ := putCutter_replied s (c := c.redefined a kind st) rfl h rest
    rw [redefined, if_pos stays]
    refine ⟨answered, unchanged.mono (by simp), fun held => ?_⟩
    rw [replied_water_of_held (s := s.putCutter _) held, replied_line_of_held (s := s.putCutter _) held]
    exact ⟨rfl, rfl⟩
  next moves =>
    rw [redefined, if_neg moves]
    exact cutting_broadcast_replied s _ _ h rest

theorem redefineCutter_cutter? (s : State) (c : Cutter) (a : Nat) (kind : CutterKind) (st : CutterSettings) (k : Nat) :
    (s.redefineCutter c a kind st).cutter? k = if c.number = k then some (c.redefined a kind st) else s.cutter? k := by
  have written : (s.redefineCutter c a kind st).cutting = (s.putCutter (c.redefined a kind st)).cutting := by
    unfold State.redefineCutter
    split <;> rfl
  rw [cutter_of_same written, cutter_putCutter]
  rfl

/-- Settles O35: the place in the cutter table is empty, holds an IDLE cutter, or holds one in another state. -/
theorem cutterIsDefinedOrChanged : Obligations.CutterIsDefinedOrChanged := by
  intro s h rest o n a kind st i ready number address settings free
  refine ⟨s.itemStep i .table (cutterItem n a kind.code st), rfl, fun undefined => ?_, fun c found idle => ?_,
    fun c found busy => ?_⟩
  · rw [itemStep_taken ready (cutterItem_of_undefined o number address settings free undefined)]
    obtain ⟨cutter, others, -, -, answered, unchanged⟩ :=
      putCutter_replied s (c := Cutter.fresh n a kind st) rfl h rest
    exact ⟨cutter, answered, others, unchanged⟩
  · have owned := cutterItem_of_defined (kind := kind) o number address settings free found
    rw [itemStep_taken ready (owned.trans (by rw [idle]; rfl))]
    obtain ⟨answered, unchanged, line⟩ := redefineCutter_replied found a kind st h rest
    have key := cutter_key found
    have mark : (if a = c.address then c.holdMark else false) = (c.holdMark && decide (a = c.address)) := by
      split <;> simp_all
    refine ⟨?_, answered, fun k other => ?_, unchanged, line⟩
    · rw [replied_cutter?, redefineCutter_cutter?, if_pos key, Cutter.redefined, mark]
    · rw [replied_cutter?, redefineCutter_cutter?, key, if_neg (Ne.symm other)]
  · have owned := cutterItem_of_defined (kind := kind) o number address settings free found
    exact itemStep_refuses ready (owned.trans (by rw [beq_eq_false_iff_ne.2 busy]; rfl))

end Sys2Proof.Machine
end

section
/-! PROOFS. The items that put a slab to work (spec/03): LOAD, UNLOAD and CUT. -/

namespace Sys2Proof.Machine

/-! ### LOAD (R11, R51) -/

theorem loaded_stock (s : State) (sl : Slab) (c : Cutter) (j : Nat) :
    (s.loaded sl c j).stock = (s.putSlab { sl with state := .onBed j c.number }).stock := by
  simp only [State.loaded, State.project_stock]
  rfl

theorem loaded_cutting (s : State) (sl : Slab) (c : Cutter) (j : Nat) :
    (s.loaded sl c j).cutting = (s.putCutter { c with state := .loaded, slab := some sl.id }).cutting := by
  simp only [State.loaded, State.project_cutting]
  rfl

theorem unchanged_loaded (s : State) (sl : Slab) (c : Cutter) (j : Nat) :
    Unchanged [.stock, .cutting, .plans] s (s.loaded sl c j) := by
  intro p hp
  cases p <;> simp_all [Part.same, State.loaded]

/-- LOAD of a slab RESERVED for the job onto an IDLE cutter passes every check of R51. -/
theorem loadItem_of_checks {s : State} {o : Origin} {slab number job : Option Nat} {id n j : Nat} {c : Cutter}
    {sl : Slab} (named : orContext slab o.ctx.slab = some id) (onto : orContext number o.ctx.onCutter = some n)
    (worked : orContext job o.ctx.job = some j) (range : cutterRange n = true) (jobs : j ≤ 63)
    (cutter : s.cutter? n = some c) (stands : s.slab? id = some sl) (idle : c.state = .idle)
    (reserved : sl.state = .reserved j) : loadItem slab number job o s = .ok (s.loaded sl c j) := by
  have ranges : (cutterRange n && jobRange j) = true := by simp [range, jobRange, jobs]
  have isIdle : (c.state == .idle) = true := beq_iff_eq.2 idle
  have isReserved : sl.isReserved = true := by rw [Slab.isReserved, reserved]
  have forJob : (sl.state.job == some j) = true := by rw [reserved]; exact beq_iff_eq.2 rfl
  rw [loadItem, named, need_some, onto, need_some, worked, need_some, ranges, ensure_true, cutter, need_some, stands,
    need_some, isIdle, ensure_true, isReserved, ensure_true, forJob, ensure_true]

/-! ### The unload sequence leaves the rest alone (R16 to R18) -/

/-- What an unload touches beside the plan and the cutter: the stock, the charges and what an alarm touches. -/
def unloadParts : List Part := [.stock, .cost, .entries, .gate, .floor, .reports]

section Unload
variable {s u v : State} (h : Unchanged unloadParts s u)
include h

theorem Unchanged.then_unload {but : List Part} (k : Unchanged but u v) (sub : but ⊆ unloadParts) :
    Unchanged unloadParts s v := h.trans (k.mono sub) (by decide)

theorem Unchanged.stockReport (e : StockEvent) (id : Nat) : Unchanged unloadParts s (u.stockReport e id) := by
  have reported : Unchanged [.reports] u (u.stockReport e id) := fun p hp => by
    cases p <;> simp_all [Part.same, State.stockReport]
  exact h.then_unload reported (by decide)

theorem Unchanged.dropSlab (id : Nat) : Unchanged unloadParts s (u.dropSlab id) :=
  h.then_unload (unchanged_setStock u _) (by decide)

theorem Unchanged.cleared (sl : Slab) : Unchanged unloadParts s (u.cleared sl) := (h.dropSlab sl.id).stockReport _ _

theorem Unchanged.raise (k : AlarmKind) (n : Nat) : Unchanged unloadParts s (u.raise k n) :=
  h.then_unload (unchanged_raise u k n) (by decide)

theorem Unchanged.chargeScrap (sl : Slab) (job scrap : Nat) : Unchanged unloadParts s (u.chargeScrap sl job scrap) := by
  unfold State.chargeScrap
  split
  · exact h
  · exact h.chargeStone (by decide) _ _ _

theorem Unchanged.createRemnant (sl : Slab) (slot : Nat) : Unchanged unloadParts s (u.createRemnant sl slot) :=
  ((h.then_unload (unchanged_setStock u _) (by decide)).then_unload (unchanged_setStock _ _) (by decide)).stockReport _ _

theorem Unchanged.evict (e : Slab) : Unchanged unloadParts s (u.evict e) :=
  (((h.dropSlab e.id).chargeStone (by decide) _ _ _).raise _ _).stockReport _ _

theorem Unchanged.unloadSequence (sl : Slab) (job : Nat) : Unchanged unloadParts s (u.unloadSequence sl job) := by
  have cleared := h.cleared sl
  by_cases keeps : u.keepsFront sl
  · cases free : lowestFree (u.dropSlab sl.id).usedSlots 24 with
    | some slot =>
      rw [unloadSequence_of_slot keeps free]
      exact (cleared.createRemnant _ _).chargeScrap _ _ _
    | none =>
      cases oldest : (u.dropSlab sl.id).evictable with
      | some e =>
        rw [unloadSequence_of_full keeps free oldest]
        exact ((cleared.evict e).createRemnant _ _).chargeScrap _ _ _
      | none =>
        rw [unloadSequence_of_stuck keeps free oldest]
        exact (cleared.raise _ _).chargeScrap _ _ _
  · rw [unloadSequence_of_small keeps]
    exact cleared.chargeScrap _ _ _

end Unload

/-! ### UNLOAD (R52) -/

/-- The bed cleared of a slab: its plan removed, and the unload sequence run when the stock table holds it (R52). -/
def State.bedCleared (s : State) (id : Nat) : State :=
  match s.slab? id with
  | none => s.dropPlan id
  | some sl => (s.dropPlan id).unloadSequence sl (sl.state.job.getD 0)

theorem bedCleared_of_slab {s : State} {id : Nat} {sl : Slab} (found : s.slab? id = some sl) :
    s.bedCleared id = (s.dropPlan id).unloadSequence sl (sl.state.job.getD 0) := by
  rw [State.bedCleared, found]

theorem unchanged_bedCleared (s : State) (id : Nat) : Unchanged unloadParts (s.dropPlan id) (s.bedCleared id) := by
  unfold State.bedCleared
  split
  · exact .rfl' _
  · exact Unchanged.unloadSequence (.rfl' _) _ _

theorem bedCleared_plans (s : State) (id : Nat) : (s.bedCleared id).plans = (s.dropPlan id).plans :=
  unchanged_bedCleared s id .plans (by decide)

theorem bedCleared_cutting (s : State) (id : Nat) : (s.bedCleared id).cutting = s.cutting :=
  unchanged_bedCleared s id .cutting (by decide)

/-- The state a cutter is left in without its slab (R52). -/
def Cutter.unloaded (c : Cutter) : Cutter := { c with state := .idle, slab := none, uncertain := [] }

/-- UNLOAD clears the bed and rewrites the cutter (R52). -/
theorem unloaded_eq {s : State} {c : Cutter} (found : s.cutter? c.number = some c) (id : Nat) :
    s.unloaded c id = (s.bedCleared id).putCutter c.unloaded := by
  have stands : (s.bedCleared id).cutter? c.number = some c := by
    rw [cutter_of_same (bedCleared_cutting s id), found]
  show (s.bedCleared id).changeCutter c.number Cutter.unloaded = _
  rw [State.changeCutter, stands]

theorem unchanged_unloaded {s : State} {c : Cutter} (found : s.cutter? c.number = some c) (id : Nat) :
    Unchanged [.stock, .plans, .cutting, .cost, .gate, .entries, .floor, .reports] s (s.unloaded c id) := by
  have planless : Unchanged [.stock, .plans, .cutting, .cost, .gate, .entries, .floor, .reports] s (s.dropPlan id) :=
    fun p hp => by cases p <;> simp_all [Part.same]
  rw [unloaded_eq found]
  exact (planless.trans ((unchanged_bedCleared s id).mono (by decide)) (by decide)).trans
    ((unchanged_setCutting _ _).mono (by decide)) (by decide)

theorem unloaded_plan? {s : State} {c : Cutter} (found : s.cutter? c.number = some c) (id k : Nat) :
    (s.unloaded c id).plan? k = if id = k then none else s.plan? k := by
  rw [unloaded_eq found, plan_of_same (State.putCutter_plans _ _), plan_of_same (bedCleared_plans s id), plan_dropPlan]

theorem unloaded_cutter? {s : State} {c : Cutter} (found : s.cutter? c.number = some c) (id k : Nat) :
    (s.unloaded c id).cutter? k = if c.number = k then some c.unloaded else s.cutter? k := by
  rw [unloaded_eq found, cutter_putCutter, cutter_of_same (bedCleared_cutting s id)]
  rfl

/-- UNLOAD of a LOADED cutter whose plan has nothing UNRESOLVED passes every check of R52. -/
theorem unloadItem_of_checks {s : State} {o : Origin} {number : Option Nat} {n id : Nat} {c : Cutter}
    (named : orContext number o.ctx.onCutter = some n) (range : cutterRange n = true) (found : s.cutter? n = some c)
    (loaded : c.state = .loaded) (slab : c.slab = some id)
    (resolved : ((s.stepsOf id).any fun st => st.state == .unresolved) = false) :
    unloadItem number o s =
      .okWith (be1 ((s.stepsOf id).countP fun st => st.state.discarded)) (s.unloaded c id) := by
  have isLoaded : (c.state == .loaded) = true := beq_iff_eq.2 loaded
  rw [unloadItem, needCutter_found named range found, isLoaded, ensure_true, slab, Option.getD_some]
  dsimp only
  rw [resolved, Bool.not_false, ensure_true]

/-- Settles O28: each item passes its checks, and its owner's state is read table by table. -/
theorem loadAndUnloadMoveTheSlab : Obligations.LoadAndUnloadMoveTheSlab := by
  constructor
  · intro s h rest o slab number job id n j c sl ready named onto worked range jobs cutter stands idle reserved
    have owned := loadItem_of_checks named onto worked range jobs cutter stands idle reserved
    have stock := loaded_stock s sl c j
    have cutting := loaded_cutting s sl c j
    obtain rfl := cutter_key cutter
    obtain rfl := slab_key stands
    refine ⟨_, exec_of_taken (owner := loadItem slab number job) rfl ready owned, ?_, fun k other => ?_, ?_,
      fun k other => ?_, ?_, ?_, answered_replied ?_, unchanged_replied (unchanged_loaded s sl c j) ?_
        (.inl (by decide))⟩
    · rw [replied_slab?, slab_of_same stock, slab_putSlab, if_pos rfl]
    · rw [replied_slab?, slab_of_same stock, slab_putSlab, if_neg (Ne.symm other)]
    · rw [replied_cutter?, cutter_of_same cutting, cutter_putCutter, if_pos rfl]
    · rw [replied_cutter?, cutter_of_same cutting, cutter_putCutter, if_neg (Ne.symm other)]
    · rw [replied_cutting, cutting]; rfl
    · rw [replied_stock, stock]; rfl
    all_goals simp [State.loaded]
  · intro s h rest o number n id c ready named range found loaded slab resolved
    have owned := unloadItem_of_checks named range found loaded slab resolved
    obtain rfl := cutter_key found
    have office : (s.unloaded c id).office = s.office := ((Within.rfl' s).unloaded c id).office
    refine ⟨_, exec_of_taken (owner := unloadItem number) rfl ready owned, ?_, fun k other => ?_, ?_, fun k other => ?_,
      ?_, answered_replied office, unchanged_replied (unchanged_unloaded found id) office (.inr (by decide)),
      fun sl j stands job => ?_⟩
    · rw [replied_plan?, unloaded_plan? found, if_pos rfl]
    · rw [replied_plan?, unloaded_plan? found, if_neg (Ne.symm other)]
    · rw [replied_cutter?, unloaded_cutter? found, if_pos rfl, Cutter.unloaded]
    · rw [replied_cutter?, unloaded_cutter? found, if_neg (Ne.symm other)]
    · rw [replied_cutting, unloaded_eq found]
      show (s.bedCleared id).cutting.records = _
      rw [bedCleared_cutting]
    · rw [unloaded_eq found, bedCleared_of_slab stands, job]
      rfl

/-! ### CUT (R59, R60) -/

/-- What is left of a CUT's checks once its step, slab, cutter and job stand and the step is in order and open (R59). -/
def State.admission (s : State) (c : Cutter) (sl : Slab) (st : Step) : Owned :=
  ensure (!s.alarms.stops .jobStop st.job) .jobStopped
    (ensure (!s.alarms.stops .cutterStop c.number) .cutterStopped
      (ensure (c.state != .faulted) .wrongState
        (ensure (c.toolState != .worn) .toolWorn
          (ensure (decide (c.slots.length < 2)) .cutterBusy
            (need (s.poolId c) .full fun id =>
              .taken (if (s.accept id c sl st).2 then .held else .ok) (be1 id) (s.accept id c sl st).1)))))

/-- What a CUT names stands, and its step is in order and open (R59): what the two statements about CUT suppose alike. -/
structure Issuable (s : State) (o : Origin) (number : Nat) (slab onCutter job : Option Nat) (id n j : Nat) (c : Cutter)
    (sl : Slab) (p : Plan) (st : Step) : Prop where
  named : orContext slab o.ctx.slab = some id
  onto : orContext onCutter o.ctx.onCutter = some n
  worked : orContext job o.ctx.job = some j
  steps : stepRange number = true
  cutters : cutterRange n = true
  jobs : jobRange j = true
  cutter : s.cutter? n = some c
  stands : s.slab? id = some sl
  planned : s.plan? id = some p
  step : p.step? number = some st
  bed : sl.state.onCutter = some n
  order : p.inOrder st = true
  isOpen : st.state = .pending ∨ st.state = .partly
  forJob : st.job = j
  jobOpen : s.jobOpen j = true

theorem Issuable.cutItem {s : State} {o : Origin} {number : Nat} {slab onCutter job : Option Nat} {id n j : Nat}
    {c : Cutter} {sl : Slab} {p : Plan} {st : Step} (h : Issuable s o number slab onCutter job id n j c sl p st) :
    cutItem number slab onCutter job o s = s.admission c sl st := by
  obtain ⟨named, onto, worked, steps, cutters, jobs, cutter, stands, planned, step, bed, order, isOpen, rfl, jobOpen⟩ := h
  obtain rfl := cutter_key cutter
  have ranges : (stepRange number && cutterRange c.number && jobRange st.job) = true := by
    rw [steps, cutters, jobs]; rfl
  have onBed : (sl.state.onCutter == some c.number) = true := beq_iff_eq.2 bed
  have unflagged : (st.state != .flagged) = true := by rcases isOpen with e | e <;> rw [e] <;> rfl
  have unblocked : (st.state != .blocked) = true := by rcases isOpen with e | e <;> rw [e] <;> rfl
  have resolved : (st.state != .unresolved) = true := by rcases isOpen with e | e <;> rw [e] <;> rfl
  have sameJob : (st.job == st.job) = true := beq_iff_eq.2 rfl
  rw [Machine.cutItem, named, need_some, onto, need_some, worked, need_some, ranges, ensure_true, cutter, need_some, stands,
    need_some, planned, need_some, step, need_some, cutChecks, onBed, ensure_true, order, ensure_true, unflagged,
    ensure_true, unblocked, ensure_true, resolved, ensure_true, sameJob, ensure_true, jobOpen, ensure_true]
  rfl

/-- The checks on alarms, cutter and tool refuse in the order of R59's table. -/
theorem admission_refused {s : State} {c : Cutter} (sl : Slab) {st : Step}
    (stopped : s.alarms.stops .jobStop st.job = true ∨ s.alarms.stops .cutterStop c.number = true ∨
      c.state = .faulted ∨ c.toolState = .worn) :
    s.admission c sl st = .refused (if s.alarms.stops .jobStop st.job = true then .jobStopped
      else if s.alarms.stops .cutterStop c.number = true then .cutterStopped
      else if c.state = .faulted then .wrongState else .toolWorn) := by
  cases job : s.alarms.stops .jobStop st.job with
  | true => rw [State.admission, job]; rfl
  | false =>
    cases cutter : s.alarms.stops .cutterStop c.number with
    | true => rw [State.admission, job, cutter]; rfl
    | false =>
      rw [State.admission, job, cutter, Bool.not_false, ensure_true, ensure_true, if_neg Bool.false_ne_true,
        if_neg Bool.false_ne_true]
      by_cases faulted : c.state = .faulted
      · rw [if_pos faulted, faulted]; rfl
      · have worn : c.toolState = .worn := by simp_all
        rw [bne_iff_ne.2 faulted, ensure_true, worn, if_neg faulted]; rfl

/-- Settles O33: what the CUT names stands and its step may be cut, so the next check that fails refuses it. -/
theorem cutRefusedForWornOrStopped : Obligations.CutRefusedForWornOrStopped := by
  intro s h rest o number slab onCutter job id n j c sl p st ready named onto worked steps cutters jobs cutter stands
    planned step bed order isOpen forJob jobOpen stopped
  have issuable : Issuable s o number slab onCutter job id n j c sl p st :=
    ⟨named, onto, worked, steps, cutters, jobs, cutter, stands, planned, step, bed, order, isOpen, forJob, jobOpen⟩
  obtain rfl := cutter_key cutter
  obtain rfl := forJob
  obtain ⟨answered, unchanged⟩ := itemStep_refuses ready (issuable.cutItem.trans (admission_refused sl stopped))
  exact ⟨_, rfl, unchanged, answered⟩

/-- The state in which a CUT's record stands before the gate: its id assigned, a slot of the cutter taken, its step ISSUED
(R60). -/
def State.recorded (s : State) (k : Nat) (c : Cutter) (sl : Slab) (st : Step) : State :=
  (((s.setCutting { s.cutting with lastId := k }).putRecord (cutRecord k c sl st)).putCutter
    { c with slots := c.slots ++ [k], state := if c.state = .loaded then .working else c.state }).issueStep sl.id st.number

theorem accept_eq (s : State) (k : Nat) (c : Cutter) (sl : Slab) (st : Step) :
    s.accept k c sl st = (s.recorded k c sl st).gateNew (cutRecord k c sl st) := rfl

@[simp] theorem recorded_gate (s : State) (k : Nat) (c : Cutter) (sl : Slab) (st : Step) :
    (s.recorded k c sl st).gate = s.gate := by
  simp [State.recorded]

/-- With no check left that fails, the record takes the id the pool chooses and goes to the gate (R60, R124). -/
theorem admission_accepted {s : State} {c : Cutter} (sl : Slab) {st : Step} {k : Nat}
    (job : s.alarms.stops .jobStop st.job = false) (cutter : s.alarms.stops .cutterStop c.number = false)
    (sound : c.state ≠ .faulted) (tool : c.toolState ≠ .worn) (room : c.slots.length < 2) (pool : s.poolId c = some k) :
    s.admission c sl st =
      .taken (if ((s.recorded k c sl st).gateNew (cutRecord k c sl st)).2 then .held else .ok) (be1 k)
        ((s.recorded k c sl st).gateNew (cutRecord k c sl st)).1 := by
  rw [State.admission, job, cutter, Bool.not_false, ensure_true, ensure_true, bne_iff_ne.2 sound, ensure_true,
    bne_iff_ne.2 tool, ensure_true, decide_eq_true room, ensure_true, pool, need_some, accept_eq]

theorem gateNew_of_passes {s : State} {r : CutRecord} (empty : s.gate.waiting = []) (passes : s.startGate r = true) :
    s.gateNew r = (s.forward r, false) := if_pos ⟨empty, passes⟩

theorem gateNew_of_waits {s : State} {r : CutRecord} (waits : s.gate.waiting ≠ [] ∨ s.startGate r = false) :
    s.gateNew r = (s.setGate { s.gate with waiting := s.gate.waiting ++ [r.id] }, true) :=
  if_neg fun ⟨empty, passes⟩ => waits.elim (· empty) fun closed => Bool.false_ne_true (closed.symm.trans passes)

/-- Settles O32: no check refuses, and the gate forwards the record or has it wait. -/
theorem cutIsAccepted : Obligations.CutIsAccepted := by
  intro s h rest o number slab onCutter job id n j k c sl p st ready named onto worked steps cutters jobs cutter stands
    planned step bed order isOpen forJob jobOpen jobRuns cutterRuns sound tool room pool u
  have issuable : Issuable s o number slab onCutter job id n j c sl p st :=
    ⟨named, onto, worked, steps, cutters, jobs, cutter, stands, planned, step, bed, order, isOpen, forJob, jobOpen⟩
  obtain rfl := cutter_key cutter
  obtain rfl := forJob
  obtain rfl := slab_key stands
  obtain rfl := step_key step
  have owned := issuable.cutItem.trans (admission_accepted sl jobRuns cutterRuns sound tool room pool)
  refine ⟨fun empty passes => ?_, fun waits => ?_⟩
  · have passed := gateNew_of_passes (s := s.recorded k c sl st) (by rw [recorded_gate]; exact empty) passes
    exact exec_of_taken (owner := cutItem st.number slab onCutter job) rfl ready (owned.trans (by rw [passed]; rfl))
  · have waited := gateNew_of_waits (s := s.recorded k c sl st) (by rw [recorded_gate]; exact waits)
    rw [recorded_gate] at waited
    exact exec_of_taken (owner := cutItem st.number slab onCutter job) rfl ready (owned.trans (by rw [waited]; rfl))

end Sys2Proof.Machine
end

section
/-! PROOFS. What ends cut records (spec/03): ABORT, timeouts and the reports of the line port; and the second that ticks the
timers (spec/03 R65, spec/05 R100). -/

namespace Sys2Proof.Machine

/-! ### What the end of records leaves of records and cutters (R57, R125) -/

/-- What the end of records and the walk of the waiting list leave: no record is new, its abort-requested flag is as it was,
and a cutter keeps its tool and its last taken echo and is not FAULTED by it. -/
structure Tidied (s t : State) : Prop where
  records : ∀ id q, t.record? id = some q → ∃ r, s.record? id = some r ∧ q.abortFlag = r.abortFlag
  cutters : ∀ n c, s.cutter? n = some c →
    ∃ d, t.cutter? n = some d ∧ d.lastTaken = c.lastTaken ∧ d.life = c.life ∧ (d.state = .faulted → c.state = .faulted)

theorem Tidied.of_same {s t : State} (cutting : t.cutting = s.cutting) : Tidied s t where
  records id q hq := ⟨q, by rw [← record_of_same cutting]; exact hq, rfl⟩
  cutters n c hc := ⟨c, by rw [cutter_of_same cutting]; exact hc, rfl, rfl, id⟩

theorem Tidied.trans {s t u : State} (h : Tidied s t) (k : Tidied t u) : Tidied s u where
  records id q hq := by
    obtain ⟨r, hr, flag⟩ := k.records id q hq
    obtain ⟨r', hr', flag'⟩ := h.records id r hr
    exact ⟨r', hr', flag.trans flag'⟩
  cutters n c hc := by
    obtain ⟨d, hd, taken, life, faulted⟩ := h.cutters n c hc
    obtain ⟨d', hd', taken', life', faulted'⟩ := k.cutters n d hd
    exact ⟨d', hd', taken'.trans taken, life'.trans life, faulted ∘ faulted'⟩

theorem Tidied.gone {s t : State} (h : Tidied s t) {id : Nat} (ended : s.record? id = none) : t.record? id = none := by
  cases stands : t.record? id with
  | none => rfl
  | some q =>
    obtain ⟨r, hr, -⟩ := h.records id q stands
    rw [ended] at hr
    cases hr

/-- A cutter settles from WORKING to LOADED alone (R57 step 6). -/
theorem settled_tool (c : Cutter) : c.settled.lastTaken = c.lastTaken ∧ c.settled.life = c.life ∧
    (c.settled.state = .faulted → c.state = .faulted) := by
  unfold Cutter.settled
  split
  · exact ⟨rfl, rfl, fun h => by cases h⟩
  · exact ⟨rfl, rfl, id⟩

theorem finishRecord_tidied (s : State) (r : CutRecord) (u : Option Ending) (p : CutReport) :
    Tidied s (s.finishRecord r u p) where
  records id q hq := by
    rw [State.record?, finishRecord_records, lookup_remove] at hq
    split at hq
    · cases hq
    · exact ⟨q, hq, rfl⟩
  cutters n c hc := by
    rw [finishRecord_cutter, hc]
    split
    · exact ⟨_, rfl, settled_tool _⟩
    · exact ⟨c, rfl, rfl, rfl, id⟩

theorem endRecord_tidied (s : State) (r : CutRecord) (e : Ending) (b : Bool) : Tidied s (s.endRecord r e b) := by
  refine Tidied.trans (.of_same ?_) (finishRecord_tidied _ _ _ _)
  split
  · exact State.unresolve_cutting _ _ _
  · exact State.giveBack_cutting _ _ _

/-- A fold of operations that each tidy up tidies up. -/
theorem Tidied.foldl {α : Type} {f : State → α → State} (h : ∀ s a, Tidied s (f s a)) (l : List α) (s : State) :
    Tidied s (l.foldl f s) :=
  List.foldlRecOn l f (.of_same rfl) fun _ tidied a _ => tidied.trans (h _ a)

theorem endAll_tidied (s : State) (ids : List Nat) (e : Ending) : Tidied s (s.endAll ids e) :=
  Tidied.foldl (fun u i => by
    split
    · exact .of_same rfl
    · exact endRecord_tidied _ _ _ _) ids s

theorem endWaiting_tidied (s : State) (n : Nat) (e : Ending) : Tidied s (s.endWaiting n e) :=
  Tidied.foldl (fun u i => by
    split
    · exact .of_same rfl
    · split
      · exact endRecord_tidied _ _ _ _
      · exact .of_same rfl) _ s

theorem startFailed_tidied (s : State) (n id : Nat) : Tidied s (s.startFailed n id).1 := by
  unfold State.startFailed
  split
  · split
    · exact endRecord_tidied _ _ _ _
    · exact .of_same rfl
  · exact .of_same rfl

/-- A standing record forwarded keeps its flag; with the queue full it ends (R61, R136). -/
theorem forward_tidied {s : State} {n : Nat} {r : CutRecord} (found : s.record? n = some r) : Tidied s (s.forward r) := by
  have sent : Tidied s (s.putRecord { r with state := .sent }) :=
    { records := fun id q hq => by
        rw [record_putRecord] at hq
        split at hq
        next own =>
          cases hq
          exact ⟨r, by rw [← own]; exact record_key found ▸ found, rfl⟩
        next => exact ⟨q, hq, rfl⟩
      cutters := fun n c hc => ⟨c, hc, rfl, rfl, id⟩ }
  unfold State.forward State.enqueue
  by_cases room : s.line.queue.length < Config.maxCommands
  · simp only [State.putRecord_line, if_pos room]
    exact sent.trans (.of_same rfl)
  · simp only [State.putRecord_line, if_neg room]
    exact sent.trans (startFailed_tidied _ _ _)

theorem walk_tidied (n : Nat) (s : State) : Tidied s (s.walk n) := by
  induction n generalizing s with
  | zero => exact .of_same rfl
  | succ n ih =>
    unfold State.walk
    split
    · exact .of_same rfl
    next id rest _ =>
      split
      · exact .of_same rfl
      next r found =>
        have popped : Tidied s (s.setGate { s.gate with waiting := rest }) := .of_same rfl
        split
        · exact (popped.trans (forward_tidied found)).trans (ih _)
        · exact .of_same rfl

theorem reevaluate_tidied (s : State) : Tidied s s.reevaluate := walk_tidied _ s

theorem reevaluateIf_tidied (s : State) (b : Bool) : Tidied s (s.reevaluateIf b) := by
  unfold State.reevaluateIf
  split
  · exact reevaluate_tidied s
  · exact .of_same rfl

/-! ### ABORT (R73) -/

/-- Whether a record stands and is WAITING. -/
def State.isWaiting (s : State) (k : Nat) : Bool := (s.record? k).any fun r => r.state == .waiting

/-- The record with a cut id ended when it is WAITING, its step given back (R47, R73). -/
def State.endIfWaiting (e : Ending) (s : State) (id : Nat) : State :=
  match s.record? id with
  | none => s
  | some r => if r.state = .waiting then s.endRecord r e false else s

theorem endWaiting_eq (s : State) (n : Nat) (e : Ending) :
    s.endWaiting n e = (s.slotsOf n).foldl (State.endIfWaiting e) s := rfl

theorem endIfWaiting_record? (e : Ending) (s : State) (id k : Nat) :
    (s.endIfWaiting e id).record? k = if id = k ∧ s.isWaiting k = true then none else s.record? k := by
  unfold State.endIfWaiting State.isWaiting
  cases found : s.record? id with
  | none =>
    dsimp only
    split
    next own => rw [← own.1, found]
    next => rfl
  | some r =>
    by_cases waits : r.state = .waiting
    · simp only [if_pos waits, endRecord_record, record_key found]
      by_cases own : id = k
      · rw [if_pos own, if_pos ⟨own, by rw [← own, found]; exact beq_iff_eq.2 waits⟩]
      · rw [if_neg own, if_neg fun h => own h.1]
    · rw [if_neg]
      · simp only [if_neg waits]
      · rintro ⟨rfl, waiting⟩
        rw [found] at waiting
        exact waits (beq_iff_eq.1 waiting)

/-- The WAITING records among the ids given have ended, and no others. -/
theorem endIfWaiting_foldl_record? (e : Ending) (l : List Nat) (s : State) (k : Nat) :
    (l.foldl (State.endIfWaiting e) s).record? k =
      if k ∈ l ∧ s.isWaiting k = true then none else s.record? k := by
  induction l generalizing s with
  | nil => simp
  | cons i l ih =>
    have head := endIfWaiting_record? e s i k
    rw [List.foldl_cons, ih, State.isWaiting, head]
    by_cases own : i = k ∧ s.isWaiting k = true
    · rw [if_pos own, ite_self, if_pos ⟨by simp [own.1], own.2⟩]
    · rw [if_neg own]
      refine if_congr ?_ rfl rfl
      show k ∈ l ∧ s.isWaiting k = true ↔ _
      rw [List.mem_cons]
      constructor
      · exact fun ⟨later, waits⟩ => ⟨.inr later, waits⟩
      · exact fun ⟨among, waits⟩ => ⟨among.resolve_left fun e => own ⟨e.symm, waits⟩, waits⟩

theorem endWaiting_record? (s : State) (n : Nat) (e : Ending) (k : Nat) :
    (s.endWaiting n e).record? k = if k ∈ s.slotsOf n ∧ s.isWaiting k = true then none else s.record? k := by
  rw [endWaiting_eq, endIfWaiting_foldl_record?]

/-- A table rewritten record by record, each under its own key, is looked up record by record. -/
theorem lookup_map {α : Type} {key : α → Nat} {f : α → α} (same : ∀ a, key (f a) = key a) (k : Nat) (l : List α) :
    lookup key k (l.map f) = (lookup key k l).map f := by
  induction l with
  | nil => rfl
  | cons a l ih =>
    rw [List.map_cons, lookup_cons, lookup_cons, same, ih]
    split <;> rfl

theorem mapRecords_record? (s : State) (n : Nat) {f : CutRecord → CutRecord} (same : ∀ r, (f r).id = r.id) (k : Nat) :
    (s.mapRecords n f).record? k = (s.record? k).map fun r => if r.onCutter == n then f r else r :=
  lookup_map (fun r => by split; exacts [same r, rfl]) k _

/-- A record flagged by an ABORT when it was in SENT or later (R73). -/
def CutRecord.flagged (r : CutRecord) : CutRecord := if r.state.sentOrLater then { r with abortFlag := true } else r

theorem flagged_id (r : CutRecord) : r.flagged.id = r.id := by unfold CutRecord.flagged; split <;> rfl

/-- The records of a cutter behind an ABORT: the WAITING ones ended, the others flagged (R73). -/
def State.abortMarked (s : State) (n : Nat) : State :=
  (s.endWaiting n (.failed .aborted)).mapRecords n CutRecord.flagged

theorem abortMarked_record? {s : State} {c : Cutter} (found : s.cutter? c.number = some c) (k : Nat) :
    (s.abortMarked c.number).record? k = (if k ∈ c.slots ∧ s.isWaiting k = true then none else s.record? k).map
      fun r => if r.onCutter == c.number then r.flagged else r := by
  rw [State.abortMarked, mapRecords_record? _ _ flagged_id, endWaiting_record?, slotsOf_of_some found]

theorem aborted_eq (s : State) (c : Cutter) :
    s.aborted c = (if (s.abortMarked c.number).atCutter c.number then (s.abortMarked c.number).enqueueAbort c.number
      else s.abortMarked c.number).reevaluateIf ((s.liveOf c).any fun r => r.state == .waiting) := rfl

/-- Behind the marked records an ABORT queues its command and has the waiting list re-evaluated. -/
theorem aborted_tidied (s : State) (c : Cutter) : Tidied (s.abortMarked c.number) (s.aborted c) := by
  rw [aborted_eq]
  refine Tidied.trans (.of_same ?_) (reevaluateIf_tidied _ _)
  split
  · exact State.enqueueAbort_cutting _ _
  · rfl

/-- An ABORT with nothing in the cutter's slots and no record of it changes nothing. -/
theorem aborted_of_none {s : State} {c : Cutter} (found : s.cutter? c.number = some c) (empty : c.slots = [])
    (none : (s.cutting.records.any fun r => r.onCutter == c.number) = false) : s.aborted c = s := by
  have others : ∀ r ∈ s.cutting.records, (r.onCutter == c.number) = false := by simpa using none
  have unended : s.endWaiting c.number (.failed .aborted) = s := by
    rw [endWaiting_eq, slotsOf_of_some found, empty]
    rfl
  have unmapped : (s.cutting.records.map fun r => if r.onCutter == c.number then r.flagged else r) =
      s.cutting.records := by
    refine Eq.trans (List.map_congr_left fun r hr => ?_) (List.map_id _)
    exact if_neg (Bool.eq_false_iff.1 (others r hr))
  have unmarked : s.abortMarked c.number = s := by
    rw [State.abortMarked, unended, State.mapRecords, unmapped]
    rfl
  have absent : s.atCutter c.number = false := by
    rw [State.atCutter, List.any_eq_false]
    intro r hr
    rw [others r hr]
    exact Bool.false_ne_true
  have alone : s.liveOf c = [] := by rw [State.liveOf, empty]; rfl
  rw [aborted_eq, unmarked, absent, alone]
  rfl

/-- Settles O34: what the ABORT itself does to a record is read off before the walk, which ends records and keeps flags. -/
theorem abortFlagsAndEnds : Obligations.AbortFlagsAndEnds := by
  intro s h rest o number n c ready named range found
  obtain rfl := cutter_key found
  refine ⟨exec_of_taken (owner := abortItem number) rfl ready (needCutter_found named range found), ?flags, ?ended,
    aborted_of_none found⟩
  case flags =>
    intro id r q stands own sent after
    obtain ⟨r', flagged, flag⟩ := (aborted_tidied s c).records id q after
    rw [abortMarked_record? found, stands] at flagged
    split at flagged
    · cases flagged
    · rw [Option.map_some, own, if_pos (beq_iff_eq.2 rfl), CutRecord.flagged, if_pos sent] at flagged
      cases flagged
      exact flag
  case ended =>
    intro id slot r stands waits
    refine (aborted_tidied s c).gone ?_
    rw [abortMarked_record? found, if_pos ⟨slot, by rw [State.isWaiting, stands]; exact beq_iff_eq.2 waits⟩]
    rfl

/-! ### A record that times out (R57, R65, R70) -/

theorem reevaluate_woundUp (s : State) : WoundUp s s.reevaluate := walk_woundUp _ s

/-- Settles O4: the record has ended before the cutter is FAULTED, and what follows winds work up. -/
theorem timeoutEndsItsRecord : Obligations.TimeoutEndsItsRecord := by
  intro s id r c found executing cutter limit
  have due : s.timedOut r = true := by
    rw [State.timedOut, executing, cutter]
    exact decide_eq_true limit
  have listed : s.timedOutIds.contains id = true :=
    List.contains_iff_mem.2 (List.mem_map.2
      ⟨r, List.mem_filter.2 ⟨lookup_mem CutRecord.id found, due⟩, record_key found⟩)
  have ended := endRecord_woundUp s r .timedOut true
  have faulted := faultCutter_woundUp (s.endRecord r .timedOut true) r.onCutter
  have swept := (faultSweep_woundUp (((s.endRecord r .timedOut true).faultCutter r.onCutter).raise .cutTimeout r.onCutter)
    r.onCutter).trans (reevaluate_woundUp _)
  refine ⟨(s.timeOut r).reevaluate.finish, ?_, ?_, ?_, rfl⟩
  · show Host.Outcome.next (if s.timedOutIds.contains id then (s.timeOutId id).finish else s) = _
    rw [if_pos listed, State.timeOutId, found]
    dsimp only
    rw [if_pos due]
  · rw [record_of_same (finish_cutting _)]
    refine swept.gone id ?_
    rw [record_of_same (State.raise_cutting _ _ _)]
    refine faulted.gone id ?_
    rw [endRecord_record, if_pos (record_key found)]
  · rw [cutter_of_same (finish_cutting _)]
    refine swept.faulted ?_
    obtain ⟨d, stands⟩ := Option.isSome_iff_exists.1 (ended.defined.trans (Option.isSome_of_eq_some cutter))
    rw [cutter_of_same (State.raise_cutting _ _ _), faultCutter_cutter, if_pos rfl, stands]
    rfl

/-! ### The reports of the line port (R63, R71, R74) -/

/-- A command that keeps what holds the line and what is being sent leaves the reports as they were while both links are
busy. -/
theorem Unchanged.finish_of_holder {but : List Part} {s u : State} (h : Unchanged but s u) (floor : Part.floor ∈ but)
    (holder : u.line.holder = s.line.holder) (sending : u.office.sending = s.office.sending) :
    Unchanged but s u.finish := by
  intro p hp
  by_cases reports : p = .reports
  · subst reports
    intro held sends
    rw [finish_of_busy (by rw [holder]; exact held) (by rw [sending]; exact sends)]
    exact h .reports hp held sends
  · exact (h.mono (List.subset_cons_self Part.reports but)).finish (by simp [floor]) p (by simp [reports, hp])

theorem takeOneReport_of_standing {s : State} {r : LineReport} (stands : r ∈ s.line.reports) :
    s.takeOneReport r = ((s.setLine { s.line with reports := s.line.reports.erase r }).takeReport r).finish :=
  if_pos (List.contains_iff_mem.2 stands)

/-- Settles O7: each report is taken out of those that stand and handled by the cutter controller. -/
theorem linePortReportsAreTaken : Obligations.LinePortReportsAreTaken := by
  refine ⟨?startFailed, ?abortFailed, ?unreachable⟩
  case startFailed =>
    intro s n id r c stands found own sent cutter sound
    generalize taken : s.setLine { s.line with reports := s.line.reports.erase (.startFailed n id) } = u
    have cutting : u.cutting = s.cutting := by rw [← taken]; rfl
    have failed : u.startFailed n id = (u.endRecord r (.failed .unreachable) false, true) := by
      rw [State.startFailed, record_of_same cutting, found]
      exact if_pos ⟨own, sent⟩
    have tidied := (endRecord_tidied u r (.failed .unreachable) false).trans (reevaluate_tidied _)
    refine ⟨(u.endRecord r (.failed .unreachable) false).reevaluate.finish, ?_, ?_, ?_, rfl⟩
    · show Host.Outcome.next (s.takeOneReport _) = _
      rw [takeOneReport_of_standing stands, taken, State.takeReport, failed]
      rfl
    · rw [record_of_same (finish_cutting _)]
      refine (reevaluate_tidied _).gone ?_
      rw [endRecord_record, if_pos (record_key found)]
    · obtain ⟨d, after, -, -, kept⟩ := tidied.cutters n c (by rw [cutter_of_same cutting, cutter])
      rw [cutter_of_same (finish_cutting _), after, Option.map_some]
      exact fun faulted => sound (kept (Option.some.inj faulted))
  case abortFailed =>
    intro s n stands
    refine ⟨(s.setLine { s.line with reports := s.line.reports.erase (.abortFailed n) }).finish, ?_, ?_, rfl⟩
    · show Host.Outcome.next (s.takeOneReport _) = _
      rw [takeOneReport_of_standing stands]
      rfl
    · have taken : Unchanged [.floor] s (s.setLine { s.line with reports := s.line.reports.erase (.abortFailed n) }) :=
        fun p hp => by cases p <;> simp_all [Part.same]
      exact taken.finish_of_holder (by decide) rfl rfl
  case unreachable =>
    intro s n c stands cutter
    obtain rfl := cutter_key cutter
    generalize taken : s.setLine { s.line with reports := s.line.reports.erase (.unreachable c.number) } = u
    have found : u.cutter? c.number = some c := by rw [← taken]; exact cutter
    have lost : u.cutterLost c.number = ((u.putCutter { c with state := .faulted, holdMark := false }).endAll c.slots
        (.failed .unreachable), !c.slots.isEmpty) := by
      rw [State.cutterLost, found]
    have put := cutter_putCutter u { c with state := .faulted, holdMark := false } c.number
    rw [if_pos rfl] at put
    have wound := (endAll_woundUp (u.putCutter { c with state := .faulted, holdMark := false }) c.slots
      (.failed .unreachable)).trans (reevaluateIf_woundUp _ (!c.slots.isEmpty))
    refine ⟨(((u.putCutter { c with state := .faulted, holdMark := false }).endAll c.slots
      (.failed .unreachable)).reevaluateIf (!c.slots.isEmpty)).finish, ?_, ?_, ?_, fun id slot => ?_⟩
    · show Host.Outcome.next (s.takeOneReport _) = _
      rw [takeOneReport_of_standing stands, taken, State.takeReport, lost]
    · rw [cutter_of_same (finish_cutting _)]
      exact wound.faulted (by rw [put]; rfl)
    · rw [cutter_of_same (finish_cutting _)]
      exact wound.holdMark (by rw [put]; rfl)
    · rw [record_of_same (finish_cutting _)]
      refine (reevaluateIf_woundUp _ _).gone id ?_
      rw [endAll_record, if_pos slot]

/-! ### A second (R65, R100) -/

theorem tick_eq (r : CutRecord) : r.tick = { r with timer := if r.state = .executing then r.timer + 1 else r.timer } := by
  unfold CutRecord.tick
  split <;> rfl

theorem freshened_eq (ch : Channel) (now limit : Nat) :
    ch.freshened now limit = { ch with stale := ch.stale && ch.staleAt now limit } := by
  unfold Channel.freshened
  split
  next past => rw [past, Bool.and_true]
  next fresh => rw [Bool.eq_false_iff.2 fresh, Bool.and_false]

theorem tickSecond_record? (s : State) (id : Nat) :
    s.tickSecond.record? id = (s.record? id).map CutRecord.tick :=
  lookup_map (fun r => by rw [tick_eq]) id _

theorem tickSecond_channel? (s : State) (n : Nat) :
    s.tickSecond.channel? n = (s.channel? n).map fun ch => ch.freshened (nextSecond s.seconds) s.line.staleness :=
  lookup_map (fun ch => by rw [freshened_eq]) n _

theorem mem_newlyStale {s : State} {n : Nat} : n ∈ s.newlyStale ↔
    ∃ ch ∈ s.water.channels, ch.number = n ∧ ch.stale = false ∧ ch.staleAt s.seconds s.line.staleness = true := by
  simp only [State.newlyStale, List.mem_map, List.mem_filter, Bool.and_eq_true, Bool.not_eq_true']
  constructor
  · rintro ⟨ch, ⟨mem, stale, past⟩, number⟩
    exact ⟨ch, mem, number, stale, past⟩
  · rintro ⟨ch, mem, number, stale, past⟩
    exact ⟨ch, ⟨mem, stale, past⟩, number⟩

/-- Settles O3: the second rewrites the counter, and the records and channels one by one. -/
theorem secondCountsAndEvaluates : Obligations.SecondCountsAndEvaluates := by
  intro s quiet
  refine ⟨s.tickSecond, ?_, rfl, fun id r found => ?_, fun n ch found => ?_, fun n => mem_newlyStale, fun p hp => ?_, rfl,
    rfl, fun id absent => ?_, fun n absent => ?_⟩
  · show Host.Outcome.next s.settle.tickSecond = _
    rw [settle_of_quiet quiet]
  · rw [tickSecond_record?, found, Option.map_some, tick_eq]
  · rw [tickSecond_channel?, found, Option.map_some, freshened_eq]
    rfl
  · cases p <;> simp_all [Part.same, State.tickSecond]
  · rw [tickSecond_record?, absent, Option.map_none]
  · rw [tickSecond_channel?, absent, Option.map_none]

end Sys2Proof.Machine
end

section
/-! PROOFS. What ACK and NAK do to the attempts of START, ABORT and the addressed retries (spec/07 R137, R143), and the hold
mark (spec/03 R64). -/

namespace Sys2Proof.Machine

/-! ### ACK and NAK inside an open window (R132, R137) -/

section Window
variable {s : State} {k : TxKind} {a : Nat} {e : Bool} (quiet : s.quiet = true) (coming : s.line.receiving = some true)
  (hh : s.line.holder = .tx { kind := k, address := a, phase := .window e })
include quiet coming hh

theorem exec_floorAck_of_window :
    exec (.floorAck a) s = .next (s.hunt.txAcked { kind := k, address := a, phase := .window e }).finish := by
  show Host.Outcome.next _ = _
  rw [settle_of_quiet quiet]
  simp only [State.goodFrame, arrival_of_window coming hh]

theorem exec_floorNak_of_window :
    exec (.floorNak a) s = .next (s.hunt.txNothing { kind := k, address := a, phase := .window e }).finish := by
  show Host.Outcome.next _ = _
  rw [settle_of_quiet quiet]
  simp only [State.goodFrame, arrival_of_window coming hh]

end Window

/-- The line free again behind a good reply, the station credited (R132, R133). -/
def State.replyTaken (s : State) (st : Station) : State := (s.credited st).freeLine

@[simp] theorem replyTaken_station? (s : State) (st : Station) :
    (s.replyTaken st).station? st.address = some { st with failures := 0, link := .up } := credited_station? s st

theorem unchanged_replyTaken (s : State) (st : Station) : Unchanged [.roster, .floor] s (s.replyTaken st) := by
  intro p hp
  cases p
  case settings => exact ⟨rfl, rfl, rfl, rfl⟩
  all_goals simp_all [Part.same, State.replyTaken, State.credited]

theorem creditStation_freeLine {s : State} {st : Station} (hs : s.station? st.address = some st) :
    (s.hunt.creditStation st.address).freeLine = s.replyTaken st := by
  rw [creditStation_of_some hs]
  rfl

/-! ### The attempt of the head command (R62, R137) -/

section Head
variable {s : State} {c : Command} {cs : List Command} (hq : s.line.queue = c :: cs)
include hq

/-- The acknowledged START of a record leaves the queue, and its cutter has acknowledged it (R62). -/
theorem commandAcked_of_start {id : Nat} (start : c.kind = .start id) (owned : c.orphan = false) :
    s.commandAcked = (s.setLine { s.line with queue := cs }).startAcked c.onCutter id := by
  simp only [State.commandAcked, hq, start, owned, State.popCommand, List.tail_cons, Bool.false_eq_true, if_false]

/-- An acknowledged ABORT, or START whose record has ended, leaves the queue alone. -/
theorem commandAcked_of_other (other : c.kind = .abort ∨ c.orphan = true) :
    s.commandAcked = s.setLine { s.line with queue := cs } := by
  rcases other with abort | orphan
  · simp only [State.commandAcked, hq, abort, State.popCommand, List.tail_cons]
  · simp only [State.commandAcked, hq, orphan, State.popCommand, List.tail_cons, if_true]
    split <;> rfl

theorem unchanged_commandAttemptFailed : Unchanged [.floor] s s.commandAttemptFailed := by
  rw [commandAttemptFailed_of_head hq]
  intro p hp
  (repeat' split) <;> cases p <;> simp_all [Part.same, State.report]

end Head

/-- The record a SENT record becomes when its START is acknowledged (R62). -/
def CutRecord.acknowledged (r : CutRecord) (behind holdMark : Bool) : CutRecord :=
  { r with state := if behind then .queued else workState holdMark, timer := 0 }

theorem startAcked_of_sent {s : State} {n id : Nat} {k : Cutter} {r : CutRecord} (cutter : s.cutter? n = some k)
    (found : s.record? id = some r) (own : r.onCutter = n) (sent : r.state = .sent) :
    s.startAcked n id =
      s.putRecord (r.acknowledged ((s.liveOf k).any fun q => q.id != id && q.state.atWork) k.holdMark) := by
  rw [State.startAcked, cutter, found]
  exact if_pos ⟨own, sent⟩

/-! ### Addressed retries (R143; log entries 13, 14, 18) -/

/-- The broadcast with the head of its missed list gone (R143). -/
def Broadcast.dropped (b : Broadcast) : Broadcast := { b with missed := b.missed.tail, attempts := 0 }

theorem dropMissed_of_broadcast {s : State} {b : Broadcast} (hb : s.line.broadcast = some b) :
    s.dropMissed = s.setLine { s.line with broadcast := some b.dropped } := by
  rw [State.dropMissed, State.changeBroadcast, hb]
  rfl

theorem removedSince_of_broadcast {s : State} {b : Broadcast} (hb : s.line.broadcast = some b) (n : Nat) :
    s.removedSince n = b.removed.contains n := by
  rw [State.removedSince, hb]
  rfl

/-- A broadcast in progress goes on while line hold is recomputed: the order pends (R141). -/
theorem recomputeHold_broadcast {s : State} {b : Broadcast} (hb : s.line.broadcast = some b) :
    s.recomputeHold.line.broadcast = some b := by
  unfold State.recomputeHold
  dsimp only
  split
  · exact hb
  · simp [State.orderBroadcast, hb]

theorem raise_broadcast {s : State} {b : Broadcast} (hb : s.line.broadcast = some b) (k : AlarmKind) (n : Nat) :
    (s.raise k n).line.broadcast = some b := by
  unfold State.raise
  dsimp only
  split
  · exact recomputeHold_broadcast (by simpa using hb)
  · simpa using hb

theorem retryAcked_of_broadcast {s : State} {b : Broadcast} (hb : s.line.broadcast = some b) (r : SlotRef) :
    s.retryAcked r =
      if b.removed.contains r.onCutter then s.setLine { s.line with broadcast := some b.dropped }
      else (s.broadcastAcked b.kind r.onCutter).setLine
        { (s.broadcastAcked b.kind r.onCutter).line with broadcast := some b.dropped } := by
  simp only [State.retryAcked, removedSince_of_broadcast hb, hb, Option.map_some, Option.getD_some]
  split
  · exact dropMissed_of_broadcast hb
  · exact dropMissed_of_broadcast (by rw [State.broadcastAcked_line]; exact hb)

/-- After a NAK an addressed retry is repeated, or has failed when its attempts exceed the retry count (R143). -/
theorem retryAttemptFailed_of_nak {s : State} {b : Broadcast} (hb : s.line.broadcast = some b) (r : SlotRef) :
    s.retryAttemptFailed r false = if b.attempts ≤ s.line.active.retries then s else s.retryFailed r := by
  simp only [State.retryAttemptFailed, hb, Option.map_some, Option.getD_some, Bool.false_or, decide_eq_true_eq,
    ← Nat.not_le, ite_not]

/-- A failed retry of a cutter whose station is reached loses the station (R143). -/
theorem retryFailed_of_reached {s : State} {b : Broadcast} {st : Station} {n : Nat} (hb : s.line.broadcast = some b)
    (hs : s.station? st.address = some st) (reached : st.link ≠ .unreachable) :
    let w := s.raise .holdUnacked n
    let lost := (w.setLine { w.line with broadcast := some b.dropped }).loseStation st
    s.retryFailed ⟨n, st.address⟩ = if b.removed.contains n then lost else lost.report (.unreachable n) := by
  intro w lost
  have dropped : w.dropMissed = w.setLine { w.line with broadcast := some b.dropped } :=
    dropMissed_of_broadcast (raise_broadcast hb _ _)
  have stands : (w.setLine { w.line with broadcast := some b.dropped }).station? st.address = some st :=
    (station_of_same (raise_roster s _ _) _).trans hs
  simp only [State.retryFailed, removedSince_of_broadcast hb]
  rw [dropped, stands]
  exact if_neg reached

/-! ### The hold mark (R64) -/

/-- A cutter's hold mark set or cleared, with its records in the state `was` moved to `becomes` (R64). -/
def State.holdMarked (s : State) (c : Cutter) (mark : Bool) (was becomes : RecordState) : State :=
  (s.putCutter { c with holdMark := mark }).mapRecords c.number fun r =>
    if r.state = was then { r with state := becomes } else r

theorem holdMarked_record? (s : State) (c : Cutter) (mark : Bool) (was becomes : RecordState) (id : Nat) :
    (s.holdMarked c mark was becomes).record? id = (s.record? id).map fun q =>
      if q.onCutter = c.number ∧ q.state = was then { q with state := becomes } else q := by
  rw [State.holdMarked, mapRecords_record? _ _ fun r => by split <;> rfl]
  refine congrArg (fun f => (s.record? id).map f) (funext fun q => ?_)
  by_cases own : q.onCutter = c.number <;> simp [own]

theorem holdMarked_cutter? (s : State) (c : Cutter) (mark : Bool) (was becomes : RecordState) (m : Nat) :
    (s.holdMarked c mark was becomes).cutter? m = if c.number = m then some { c with holdMark := mark } else s.cutter? m :=
  cutter_putCutter s { c with holdMark := mark } m

theorem unchanged_holdMarked (s : State) (c : Cutter) (mark : Bool) (was becomes : RecordState) :
    Unchanged [.cutting] s (s.holdMarked c mark was becomes) := unchanged_setCutting s _

theorem broadcastAcked_hold {s : State} {c : Cutter} (found : s.cutter? c.number = some c) :
    s.broadcastAcked .hold c.number = if c.holdMark then s else s.holdMarked c true .executing .held := by
  simp only [State.broadcastAcked, State.holdAcked, found]
  rfl

theorem broadcastAcked_resume {s : State} {c : Cutter} (found : s.cutter? c.number = some c) :
    s.broadcastAcked .resume c.number = if c.holdMark then s.holdMarked c false .held .executing else s := by
  simp only [State.broadcastAcked, State.resumeAcked, found]
  rfl

/-! ### The STARTs of ended records (R57, R136) -/

/-- A START of an ended record that is left in the queue has an attempt made; one without is withdrawn. -/
theorem withdraw_queue_attempted {s : State} {n id : Nat} {c : Command} (h : c ∈ (s.withdraw n id).line.queue)
    (k : c.kind = .start id) (m : c.onCutter = n) : c.attempts ≠ 0 := by
  obtain ⟨d, hd, rfl⟩ := List.mem_map.1 h
  rw [orphaned_kind] at k
  rw [orphaned_onCutter] at m
  rw [orphaned_attempts]
  intro unsent
  have kept := (List.mem_filter.1 hd).2
  simp [Command.isUnsentStart, k, m, unsent] at kept

/-- The queue a record's end leaves is the one its withdrawal leaves. -/
theorem finishRecord_queue (s : State) (r : CutRecord) (u : Option Ending) (p : CutReport) :
    ∃ w : State, (s.finishRecord r u p).line.queue = (w.withdraw r.onCutter r.id).line.queue := by
  unfold State.finishRecord
  dsimp only
  generalize State.setCutting _ _ = w
  exact ⟨w, by split <;> simp⟩

/-! ### The attempts answered (R62, R137, R143) -/

section Answered
variable {s : State} {k : TxKind} {e : Bool} {st : Station} (quiet : s.quiet = true) (coming : s.line.receiving = some true)
  (hh : s.line.holder = .tx { kind := k, address := st.address, phase := .window e }) (hs : s.station? st.address = some st)
include quiet coming hh hs

theorem exec_floorAck_of_command (command : k = .command) :
    exec (.floorAck st.address) s = .next (s.replyTaken st).commandAcked.finish := by
  rw [exec_floorAck_of_window quiet coming hh, command, ← creditStation_freeLine hs]
  rfl

theorem exec_floorNak_of_command (command : k = .command) :
    exec (.floorNak st.address) s = .next (s.replyTaken st).commandAttemptFailed.finish := by
  rw [exec_floorNak_of_window quiet coming hh, command, ← creditStation_freeLine hs]
  rfl

theorem exec_floorAck_of_retry {r : SlotRef} (retry : k = .retry r) :
    exec (.floorAck st.address) s = .next ((s.replyTaken st).retryAcked r).finish := by
  rw [exec_floorAck_of_window quiet coming hh, retry, ← creditStation_freeLine hs]
  rfl

theorem exec_floorNak_of_retry {r : SlotRef} (retry : k = .retry r) :
    exec (.floorNak st.address) s = .next ((s.replyTaken st).retryAttemptFailed r false).finish := by
  rw [exec_floorNak_of_window quiet coming hh, retry, ← creditStation_freeLine hs]
  rfl

end Answered

/-- What a step that keeps the roster does after a good reply finds the station UP with failure count 0 (R133). -/
theorem finish_reached {s t : State} {st : Station} (kept : t.line.roster = (s.replyTaken st).line.roster) :
    t.finish.station? st.address = some { st with failures := 0, link := .up } :=
  (station_of_same ((finish_roster t).trans kept) _).trans (replyTaken_station? s st)

/-- The record that was put is found by its id after the step, and the others are as they were. -/
theorem finish_putRecord_record? (s : State) (q : CutRecord) (id : Nat) :
    (s.putRecord q).finish.record? id = if q.id = id then some q else s.record? id :=
  (record_of_same (finish_cutting _) id).trans (record_putRecord s q id)

/-- The acknowledged START of a SENT record (R62). -/
theorem exec_floorAck_of_start {s : State} {id : Nat} {e : Bool} {st : Station} {c : Command} {cs : List Command}
    {k : Cutter} {r : CutRecord} (quiet : s.quiet = true) (coming : s.line.receiving = some true)
    (hh : s.line.holder = .tx { kind := .command, address := st.address, phase := .window e })
    (hs : s.station? st.address = some st) (hq : s.line.queue = c :: cs) (start : c.kind = .start id)
    (cutter : s.cutter? c.onCutter = some k) (found : s.record? id = some r) (own : r.onCutter = c.onCutter)
    (sent : r.state = .sent) (owned : c.orphan = false) :
    exec (.floorAck st.address) s = .next ((((s.replyTaken st).setLine { (s.replyTaken st).line with queue := cs }).putRecord
      (r.acknowledged ((s.liveOf k).any fun q => q.id != id && q.state.atWork) k.holdMark))).finish := by
  have queue : (s.replyTaken st).line.queue = c :: cs := hq
  have acked := startAcked_of_sent (s := (s.replyTaken st).setLine { (s.replyTaken st).line with queue := cs })
    (n := c.onCutter) cutter found own sent
  rw [exec_floorAck_of_command quiet coming hh hs rfl, commandAcked_of_start queue start owned, acked]
  rfl

/-- The acknowledged addressed retry (R143; log entry 14). -/
theorem exec_floorAck_of_broadcast {s : State} {n : Nat} {e : Bool} {st : Station} {b : Broadcast}
    (quiet : s.quiet = true) (coming : s.line.receiving = some true)
    (hh : s.line.holder = .tx { kind := .retry ⟨n, st.address⟩, address := st.address, phase := .window e })
    (hs : s.station? st.address = some st) (hb : s.line.broadcast = some b) :
    let u := s.replyTaken st
    let w := if b.removed.contains n then u else u.broadcastAcked b.kind n
    exec (.floorAck st.address) s = .next (w.setLine { w.line with broadcast := some b.dropped }).finish := by
  intro u w
  have acked := retryAcked_of_broadcast (s := u) hb ⟨n, st.address⟩
  rw [exec_floorAck_of_retry quiet coming hh hs rfl, acked]
  cases h : b.removed.contains n <;> simp only [w, h, Bool.false_eq_true, if_true, if_false]

/-- The addressed retry answered with NAK (R143; log entries 13, 18). -/
theorem exec_floorNak_of_broadcast {s : State} {n : Nat} {e : Bool} {st : Station} {b : Broadcast}
    (quiet : s.quiet = true) (coming : s.line.receiving = some true)
    (hh : s.line.holder = .tx { kind := .retry ⟨n, st.address⟩, address := st.address, phase := .window e })
    (hs : s.station? st.address = some st) (hb : s.line.broadcast = some b) :
    let u := s.replyTaken st
    let w := u.raise .holdUnacked n
    let lost := (w.setLine { w.line with broadcast := some b.dropped }).loseStation { st with failures := 0, link := .up }
    exec (.floorNak st.address) s = .next (if b.attempts ≤ s.line.active.retries then u
      else if b.removed.contains n then lost else lost.report (.unreachable n)).finish := by
  intro u w lost
  have failed := retryFailed_of_reached (s := u) (st := { st with failures := 0, link := .up }) (n := n) hb
    (replyTaken_station? s st) (by simp)
  rw [exec_floorNak_of_retry quiet coming hh hs rfl, retryAttemptFailed_of_nak (s := u) hb ⟨n, st.address⟩, failed]
  rfl

/-- The hold mark's rule, for a mark that is set or cleared and for one that stands already (R64). -/
theorem broadcastAcked_cutter? {s : State} {c : Cutter} (found : s.cutter? c.number = some c) (k : BroadcastKind) (m : Nat) :
    (s.broadcastAcked k c.number).cutter? m =
      if c.number = m then some { c with holdMark := decide (k = .hold) } else s.cutter? m := by
  have stands (same : c.holdMark = decide (k = .hold)) :
      s.cutter? m = if c.number = m then some { c with holdMark := decide (k = .hold) } else s.cutter? m := by
    rw [← same]
    split
    · next here => exact here ▸ found
    · rfl
  cases k <;> cases marked : c.holdMark
  case hold.false =>
    rw [broadcastAcked_hold found, if_neg (by simp [marked])]
    exact holdMarked_cutter? s c true _ _ m
  case hold.true => rw [broadcastAcked_hold found, if_pos marked]; exact stands marked
  case resume.false => rw [broadcastAcked_resume found, if_neg (by simp [marked])]; exact stands marked
  case resume.true =>
    rw [broadcastAcked_resume found, if_pos marked]
    exact holdMarked_cutter? s c false _ _ m

theorem broadcastAcked_record? {s : State} {c : Cutter} (found : s.cutter? c.number = some c) (k : BroadcastKind) {id : Nat}
    {q : CutRecord} (stands : s.record? id = some q) : (s.broadcastAcked k c.number).record? id =
      if q.onCutter = c.number ∧ k = .hold ∧ c.holdMark = false ∧ q.state = .executing then some { q with state := .held }
      else if q.onCutter = c.number ∧ k = .resume ∧ c.holdMark = true ∧ q.state = .held then
        some { q with state := .executing }
      else some q := by
  cases k with
  | hold =>
    rw [broadcastAcked_hold found]
    cases c.holdMark
    · simp [holdMarked_record?, stands, apply_ite some]
    · simpa using stands
  | resume =>
    rw [broadcastAcked_resume found]
    cases c.holdMark
    · simpa using stands
    · simp [holdMarked_record?, stands, apply_ite some]

theorem unchanged_broadcastAcked {s : State} {c : Cutter} (found : s.cutter? c.number = some c) (k : BroadcastKind) :
    Unchanged [.cutting] s (s.broadcastAcked k c.number) := by
  cases k with
  | hold =>
    rw [broadcastAcked_hold found]
    split
    · exact Unchanged.rfl' s
    · exact unchanged_holdMarked s c _ _ _
  | resume =>
    rw [broadcastAcked_resume found]
    split
    · exact unchanged_holdMarked s c _ _ _
    · exact Unchanged.rfl' s

/-- Settles O52: each answer is taken inside the open window, and what the attempt was for is read off its own rule. -/
theorem attemptsAreRuledByAckAndNak : Obligations.AttemptsAreRuledByAckAndNak := by
  refine ⟨?start, ?head, ?retry, ?mark, ?ended⟩
  case start =>
    intro s a n id e st c cs k r quiet coming hh hs hq start onto cutter found own sent owned behind taken u
    obtain rfl := station_key hs
    obtain rfl := onto
    have line : u = s.replyTaken st := creditStation_freeLine hs
    have key : taken.id = id := by
      have stands : r.id = id := record_key found
      exact stands
    have answered : exec (.floorAck st.address) s = .next ((u.setLine { u.line with queue := cs }).putRecord taken).finish :=
      line ▸ exec_floorAck_of_start quiet coming hh hs hq start cutter found own sent owned
    have reached : ((u.setLine { u.line with queue := cs }).putRecord taken).finish.station? st.address =
        some { st with failures := 0, link := .up } := finish_reached (s := s) (line ▸ rfl)
    clear_value u taken
    subst line
    refine ⟨_, answered, ?_, fun j other => ?_, ?_, ?_, ?_, ?_, rfl⟩
    · rw [finish_putRecord_record?, if_pos key]
    · rw [finish_putRecord_record?, if_neg (key ▸ Ne.symm other)]
      rfl
    · rw [reached]; rfl
    · rw [reached]; rfl
    · exact finish_stock _
    · exact finish_gate _
  case head =>
    intro s a e st c cs quiet coming hh hs hq u
    obtain rfl := station_key hs
    have line : u = s.replyTaken st := creditStation_freeLine hs
    clear_value u
    subst line
    have queue : (s.replyTaken st).line.queue = c :: cs := hq
    have kept := unchanged_commandAttemptFailed queue
    have reached := finish_reached (s := s) (kept .roster (by decide))
    refine ⟨fun other => ?_, (s.replyTaken st).commandAttemptFailed.finish, ?_, ?_, ?_, ?_, ?_⟩
    · rw [exec_floorAck_of_command quiet coming hh hs rfl, commandAcked_of_other queue other]
    · exact exec_floorNak_of_command quiet coming hh hs rfl
    · rw [reached]; rfl
    · rw [reached]; rfl
    · rw [commandAttemptFailed_of_head queue]
      rfl
    · exact (((unchanged_replyTaken s st).mono (by decide)).trans (kept.mono (by decide)) (by decide)).finish (by decide)
  case retry =>
    intro s r e st b quiet coming hh hs hb u drop lost
    obtain ⟨n, a⟩ := r
    obtain rfl : st.address = a := station_key hs
    have line : u = s.replyTaken st := creditStation_freeLine hs
    refine ⟨(exec_floorAck_of_broadcast quiet coming hh hs hb).trans ?_,
      (exec_floorNak_of_broadcast quiet coming hh hs hb).trans ?_⟩
    · rw [← line]
      rfl
    · rw [← line]
      rfl
  case mark =>
    intro s k n c found t
    obtain rfl := cutter_key found
    exact ⟨(broadcastAcked_cutter? found k _).trans (if_pos rfl),
      fun m other => (broadcastAcked_cutter? found k m).trans (if_neg other.symm),
      fun id q stands => broadcastAcked_record? found k stands, unchanged_broadcastAcked found k⟩
  case ended =>
    intro s r e unresolve c among start own
    obtain ⟨w, queue⟩ := finishRecord_queue (if unresolve then s.unresolve r.slab r.number else s.giveBack r.slab r.number)
      r (if r.state.sentOrLater then some e else none) (r.emptyReport e)
    have withdrawn : c ∈ (w.withdraw r.onCutter r.id).line.queue := queue ▸ among
    exact ⟨withdraw_queue_start withdrawn start own, withdraw_queue_attempted withdrawn start own⟩

end Sys2Proof.Machine
end

section
/-! PROOFS. A completion classed by its echo (spec/03 R66), and what each class leaves: taken (R67), a duplicate, late (R68)
or mismatched (R69). -/

namespace Sys2Proof.Machine

/-! ### A COMPLETION inside the window of its cutter's poll -/

/-- A COMPLETION in the window of a poll of the CUTTER station a cutter is bound to: it goes to that cutter, and the answer
is ACKed (R66, R140). -/
theorem exec_completionAnswer_of_cutter {s : State} {e : Bool} {st : Station} {c : Cutter} (m : Completion) (ending : Nat)
    (ends : m.ending = cutEndOf ending) (quiet : s.quiet = true) (coming : s.line.receiving = some true)
    (hh : s.line.holder = .tx { kind := .poll, address := st.address, phase := .window e })
    (hs : s.station? st.address = some st) (cutter : st.kind = .cutter) (bound : s.cutterAt st.address = some c) :
    exec (.completionAnswer st.address m.echo.cutId m.echo.slab m.echo.number ending m.pieces m.travel m.elapsed m.litres
      m.lengths) s = .next (((s.credited st).completion c m).closeTx
        { kind := .poll, address := st.address, phase := .window e } true .unanswered).finish := by
  have station : (s.credited st).stationIs st.address .cutter = true := by
    rw [State.stationIs, credited_station?]
    exact beq_iff_eq.2 cutter
  have reached : (s.credited st).cutterAt st.address = some c := bound
  show Host.Outcome.next _ = _
  rw [settle_of_quiet quiet]
  simp only [State.goodFrame, arrival_of_window coming hh, State.answered, TxKind.isPoll, if_true, creditStation_of_some hs,
    passCompletion, station, reached, ← ends]

/-! ### The class of an echo (R66) -/

section Class
variable {s : State} {c : Cutter} {e : Echo}

theorem atWork_iff (r : RecordState) : r.atWork = true ↔ r = .executing ∨ r = .held := by
  cases r <;> simp [RecordState.atWork]

/-- The record at work is taken by its own echo. -/
theorem classify_of_atWork {r : CutRecord} (live : r ∈ s.liveOf c) (works : r.state.atWork = true) (echo : r.echo = e)
    (alone : ∀ q ∈ s.liveOf c, q.state.atWork = true → q = r) : s.classify c e = .taken r := by
  obtain ⟨q, found⟩ : ∃ q, (s.liveOf c).find? (fun r => r.state.atWork && r.echo == e) = some q :=
    Option.isSome_iff_exists.1 (List.find?_isSome.2 ⟨r, live, by simp [works, echo]⟩)
  have matched := List.find?_some found
  simp only [Bool.and_eq_true] at matched
  have own : q = r := alone q (List.mem_of_find?_eq_some found) matched.1
  simp only [State.classify, found, own]

/-- With no record at work, a SENT record is taken by its echo, and as EXECUTING. -/
theorem classify_of_sent {r : CutRecord} (live : r ∈ s.liveOf c) (sent : r.state = .sent) (echo : r.echo = e)
    (idle : ∀ q ∈ s.liveOf c, ¬q.state.atWork = true) (alone : ∀ q ∈ s.liveOf c, q.state = .sent → q.echo = e → q = r) :
    s.classify c e = .taken { r with state := .executing } := by
  have none : (s.liveOf c).find? (fun r => r.state.atWork && r.echo == e) = none :=
    List.find?_eq_none.2 fun q among => by simp [idle q among]
  have rest : ((s.liveOf c).any fun q => q.state.atWork) = false :=
    List.any_eq_false.2 idle
  obtain ⟨q, found⟩ : ∃ q, (s.liveOf c).find?
      (fun r => r.state == .sent && r.echo == e && !(s.liveOf c).any fun q => q.state.atWork) = some q :=
    Option.isSome_iff_exists.1 (List.find?_isSome.2 ⟨r, live, by simp [sent, echo, rest]⟩)
  have own : q = r := by
    have matched := List.find?_some found
    simp only [Bool.and_eq_true, beq_iff_eq] at matched
    exact alone q (List.mem_of_find?_eq_some found) matched.1.1 matched.1.2
  simp only [State.classify, none, found, own]

/-- No live record of the cutter takes the echo: neither the one at work, nor a SENT one while none is at work (R66). -/
def State.unclaimed (s : State) (c : Cutter) (e : Echo) : Prop :=
  (∀ q ∈ s.liveOf c, q.state.atWork = true → q.echo ≠ e) ∧
    ∀ q ∈ s.liveOf c, q.state = .sent → q.echo = e → ∃ p ∈ s.liveOf c, p.state.atWork = true

/-- An echo no record takes is a duplicate, late or mismatched, by the cutter's own fields. -/
theorem classify_of_unclaimed (h : s.unclaimed c e) : s.classify c e =
    if c.lastTaken = some e then .duplicate
    else match c.uncertain.find? fun u => u.echo == e with
      | some u => .late u
      | none => .mismatched := by
  obtain ⟨working, sent⟩ := h
  have idle : (s.liveOf c).find? (fun r => r.state.atWork && r.echo == e) = none :=
    List.find?_eq_none.2 fun q among => by
      simp only [Bool.and_eq_true, beq_iff_eq, not_and]
      exact working q among
  have unsent : (s.liveOf c).find?
      (fun r => r.state == .sent && r.echo == e && !(s.liveOf c).any fun q => q.state.atWork) = none :=
    List.find?_eq_none.2 fun q among => by
      simp only [Bool.and_eq_true, beq_iff_eq, Bool.not_eq_true', List.any_eq_false, not_and]
      intro own idles
      obtain ⟨p, live, works⟩ := sent q among own.1 own.2
      exact idles p live works
  simp only [State.classify, idle, unsent] <;> rfl

end Class

/-! ### A completion taken (R46, R67) -/

/-- What a taken completion leaves: its record is gone, and its cutter has taken the echo and has the life given. -/
structure CompletionTaken (s : State) (n id : Nat) (e : Echo) (life : Nat) : Prop where
  gone : s.record? id = none
  cutter : ∃ d, s.cutter? n = some d ∧ d.lastTaken = some e ∧ d.life = life

section Taken
variable {s t : State} {n id : Nat} {e : Echo} {life : Nat}

theorem CompletionTaken.tidied (h : CompletionTaken s n id e life) (k : Tidied s t) : CompletionTaken t n id e life where
  gone := k.gone h.gone
  cutter := by
    obtain ⟨c, found, taken, left⟩ := h.cutter
    obtain ⟨d, stands, taken', left', -⟩ := k.cutters n c found
    exact ⟨d, stands, taken'.trans taken, left'.trans left⟩

theorem CompletionTaken.of_same (h : CompletionTaken s n id e life) (cutting : t.cutting = s.cutting) :
    CompletionTaken t n id e life := h.tidied (.of_same cutting)

theorem CompletionTaken.faultCutter (h : CompletionTaken s n id e life) (k : Nat) :
    CompletionTaken (s.faultCutter k) n id e life where
  gone := (faultCutter_record? s k id).trans h.gone
  cutter := by
    obtain ⟨c, found, read⟩ := h.cutter
    rw [faultCutter_cutter, found]
    split
    · exact ⟨_, rfl, read⟩
    · exact ⟨c, rfl, read⟩

theorem CompletionTaken.startQueued (h : CompletionTaken s n id e life) (k : Nat) :
    CompletionTaken (s.startQueued k) n id e life := by
  unfold State.startQueued
  split
  · exact h
  · refine ⟨?_, h.cutter⟩
    rw [mapRecords_record? _ _ fun r => by split <;> rfl, h.gone, Option.map_none]

/-- The tool's life falls by the area cut, not below 0 (R46). -/
theorem CompletionTaken.wearTool (h : CompletionTaken s n id e life) (area : Nat) :
    CompletionTaken (s.wearTool n area) n id e (life - area) := by
  obtain ⟨gone, c, found, taken, rfl⟩ := h
  obtain rfl := cutter_key found
  have put : CompletionTaken (s.putCutter { c with life := c.life - area }) c.number id e (c.life - area) :=
    ⟨gone, _, (cutter_putCutter s { c with life := c.life - area } c.number).trans (if_pos rfl), taken, rfl⟩
  unfold State.wearTool
  rw [found]
  dsimp only
  refine put.of_same ?_
  (repeat' split) <;> simp

/-- The record's end behind the echo's taking. -/
theorem completionTaken_finishRecord {u : State} {c : Cutter} {r : CutRecord} (found : u.cutter? r.onCutter = some c)
    (e : Echo) (report : CutReport) :
    CompletionTaken ((u.changeCutter r.onCutter fun k => { k with lastTaken := some e }).finishRecord r none report)
      r.onCutter r.id e c.life where
  gone := by rw [State.record?, finishRecord_records, lookup_remove, if_pos rfl]
  cutter := by
    have taken : (u.changeCutter r.onCutter fun k => { k with lastTaken := some e }).cutter? r.onCutter =
        some { c with lastTaken := some e } := by
      rw [changeCutter_cutter u _ _ (fun k => { k with lastTaken := some e }) fun _ => rfl, if_pos rfl, found, Option.map_some]
    obtain ⟨d, stands, kept, left, -⟩ := (finishRecord_tidied _ r none report).cutters r.onCutter _ taken
    exact ⟨d, stands, kept, left⟩

end Taken

theorem applyCompletion_cutting (s : State) (id n : Nat) (e : CutEnd) (k : Nat) (l : List Nat) :
    (s.applyCompletion id n e k l).1.cutting = s.cutting := by
  unfold State.applyCompletion
  (repeat' split) <;> simp

theorem takeCompletion_taken {s : State} {c d : Cutter} {r : CutRecord} (m : Completion)
    (found : s.cutter? r.onCutter = some d) :
    CompletionTaken (s.takeCompletion c r m) r.onCutter r.id m.echo
      (d.life - min m.travel r.travel * (((s.slab? r.slab).map Slab.thickness).getD 0 + c.settings.overcut)) := by
  have applied := applyCompletion_cutting s r.slab r.number m.ending (min m.pieces r.pieces.length) m.lengths
  unfold State.takeCompletion
  generalize s.applyCompletion r.slab r.number m.ending (min m.pieces r.pieces.length) m.lengths = result at applied ⊢
  generalize ((s.slab? r.slab).map Slab.thickness).getD 0 + c.settings.overcut = depth
  obtain ⟨u, hand⟩ := result
  have stands (charge) : (u.addCharge r.job charge).cutter? r.onCutter = some d := by
    rw [cutter_of_same ((State.addCharge_cutting _ _ _).trans applied), found]
  have worn (charge report) := (completionTaken_finishRecord (stands charge) m.echo report).wearTool
    (min m.travel r.travel * depth)
  have ended {v : State} {life : Nat} (hv : CompletionTaken v r.onCutter r.id m.echo life) : CompletionTaken
      (if m.ending = .fault then ((v.faultCutter r.onCutter).raise .cutterFault r.onCutter).faultSweep r.onCutter
        else v.startQueued r.onCutter) r.onCutter r.id m.echo life := by
    split
    · exact ((hv.faultCutter _).of_same (State.raise_cutting _ _ _)).tidied (endAll_tidied _ _ _)
    · exact hv.startQueued _
  refine ended ?_
  split
  · exact (worn _ _).tidied (endWaiting_tidied _ _ _)
  · exact worn _ _

/-! ### A completion that is late, or matches nothing (R68, R69) -/

theorem lateCompletion_frame (s : State) (c : Cutter) (u : Uncertain) (m : Completion) :
    (s.lateCompletion c u m).cutting = (s.putCutter { c with uncertain := c.uncertain.erase u }).cutting ∧
      (s.lateCompletion c u m).stock = s.stock ∧ (s.lateCompletion c u m).cost = s.cost ∧
      (s.lateCompletion c u m).plans = s.plans ∧
      (s.lateCompletion c u m).alarms.entries = (s.alarms.raised .lateCompletion c.number s.seconds).1 := by
  unfold State.lateCompletion
  simp

/-- The oldest entry with an echo is found, and erased where it stands (log entry 29). -/
theorem uncertain_oldest {l older newer : List Uncertain} {x : Uncertain} {e : Echo} (list : l = older ++ x :: newer)
    (own : x.echo = e) (others : ∀ y ∈ older, y.echo ≠ e) :
    l.find? (fun u => u.echo == e) = some x ∧ l.erase x = older ++ newer := by
  subst list
  refine ⟨List.find?_eq_some_iff_append.2 ⟨beq_iff_eq.2 own, older, newer, rfl, fun y among => ?_⟩, ?_⟩
  · simpa using others y among
  · rw [List.erase_append_right _ fun among => others x among own, List.erase_cons_head]

theorem mismatch_left {s : State} {c : Cutter} (found : s.cutter? c.number = some c) (b : Bool) :
    let t := (s.mismatch c).reevaluateIf b
    (t.cutter? c.number).map Cutter.state = some .faulted ∧
      (t.cutter? c.number).map Cutter.lastTaken = some c.lastTaken ∧ (∀ id ∈ c.slots, t.record? id = none) ∧
      t.stock = s.stock ∧ t.cost = s.cost ∧ t.alarms.entries = (s.alarms.raised .echoMismatch c.number s.seconds).1 := by
  intro t
  have faulted : ((s.raise .echoMismatch c.number).faultCutter c.number).cutter? c.number =
      some { c with state := .faulted } := by
    rw [faultCutter_cutter, if_pos rfl, cutter_of_same (State.raise_cutting _ _ _), found, Option.map_some]
  have wound := (endAll_woundUp ((s.raise .echoMismatch c.number).faultCutter c.number) c.slots
    (.failed .echoMismatch)).trans (reevaluateIf_woundUp _ b)
  obtain ⟨d, stands, taken, -⟩ := ((endAll_tidied _ c.slots (.failed .echoMismatch)).trans
    (reevaluateIf_tidied _ b)).cutters _ _ faulted
  refine ⟨wound.faulted (by rw [faulted]; rfl), ?_, fun id slot => ?_, ?_, ?_, ?_⟩
  · exact (congrArg (Option.map Cutter.lastTaken) stands).trans (congrArg some taken)
  · refine (reevaluateIf_woundUp _ b).gone id ?_
    exact (endAll_record _ c.slots _ id).trans (if_pos slot)
  · exact (State.reevaluateIf_stock _ b).trans (State.mismatch_stock s c)
  · exact (State.reevaluateIf_cost _ b).trans (State.mismatch_cost s c)
  · have entries : t.alarms.entries = ((s.raise .echoMismatch c.number).faultCutter c.number).alarms.entries :=
      wound.parts .entries (by decide)
    rw [entries, (faultCutter_woundUp _ _).parts .entries (by decide), raise_entries]

/-! ### The poll closed with an ACK (R132, R140) -/

section Closed
variable (s : State) (t : Tx)

theorem closed_stock : (s.closeTx t true .unanswered).finish.stock = s.stock := finish_stock _
theorem closed_plans : (s.closeTx t true .unanswered).finish.plans = s.plans := finish_plans _
theorem closed_cost : (s.closeTx t true .unanswered).finish.cost = s.cost := finish_cost _
theorem closed_cutting : (s.closeTx t true .unanswered).finish.cutting = s.cutting := finish_cutting _
theorem closed_entries : (s.closeTx t true .unanswered).finish.alarms.entries = s.alarms.entries := finish_entries _

end Closed

/-- Settles O53: the echo's class is read off the live records and the cutter, and each class leaves what its rule says. -/
theorem completionsAreClassedByEcho : Obligations.CompletionsAreClassedByEcho := by
  intro s a e st c i w ending pieces travel elapsed litres sl lengths quiet coming hh hs cutter bound found m u live atWork
    unclaimed
  obtain rfl := station_key hs
  have credit : u = s.credited st := creditStation_of_some hs
  clear_value u
  subst credit
  have free : unclaimed → (s.credited st).unclaimed c m.echo := fun ⟨working, sent⟩ =>
    ⟨fun q among works => working q among ((atWork_iff _).1 works), fun q among own echo => by
      obtain ⟨p, mem, works⟩ := sent q among own echo
      exact ⟨p, mem, (atWork_iff _).2 works⟩⟩
  refine ⟨(((s.credited st).completion c m).closeTx { kind := .poll, address := st.address, phase := .window e } true
    .unanswered).finish, exec_completionAnswer_of_cutter m ending rfl quiet coming hh hs cutter bound, ?out, ?taken,
    ?duplicate, ?late, ?mismatched⟩
  case out => rw [closed_line]; rfl
  case taken =>
    intro r among onto echo which done
    have classed : (s.credited st).classify c m.echo =
        .taken (if r.state = .sent then { r with state := .executing } else r) := by
      rcases which with ⟨works, alone⟩ | ⟨sent, idle, alone⟩
      · rw [if_neg (by rcases works with h | h <;> simp [h])]
        exact classify_of_atWork among ((atWork_iff _).2 works) echo fun q mem works => alone q mem ((atWork_iff _).1 works)
      · rw [if_pos sent]
        exact classify_of_sent among sent echo (fun q mem works => idle q mem ((atWork_iff _).1 works)) alone
    have same : (s.credited st).completion c m = done := by rw [State.completion, classed]
    have taken : CompletionTaken done c.number r.id m.echo (c.life -
        min m.travel r.travel * (((s.slab? r.slab).map Slab.thickness).getD 0 + c.settings.overcut)) := by
      refine CompletionTaken.tidied ?_ (reevaluate_tidied _)
      split
      · exact onto ▸ takeCompletion_taken (s := s.credited st) (r := { r with state := .executing }) m (onto ▸ found)
      · exact onto ▸ takeCompletion_taken (s := s.credited st) (r := r) m (onto ▸ found)
    rw [same]
    obtain ⟨gone, d, stands, last, left⟩ := taken.of_same (closed_cutting done _)
    refine ⟨closed_stock done _, closed_cost done _, closed_cutting done _, gone, ?_, fun q slab => ?_⟩
    · rw [stands, Option.map_some, last]
    · rw [stands, Option.map_some, left, slab]
      rfl
  case duplicate =>
    intro unc last
    have same : (s.credited st).completion c m = s.credited st := by
      rw [State.completion, classify_of_unclaimed (free unc), if_pos last]
    rw [same]
    exact unchanged_closed (unchanged_credited s st) (by decide) rfl _ _ _
  case late =>
    intro older newer x unc fresh list own others
    obtain ⟨oldest, erased⟩ := uncertain_oldest list own others
    have late : (s.credited st).completion c m = (s.credited st).lateCompletion c x m := by
      rw [State.completion, classify_of_unclaimed (free unc), if_neg fresh, oldest]
    rw [late]
    obtain ⟨cutting, stock, cost, plans, entries⟩ := lateCompletion_frame (s.credited st) c x m
    refine ⟨?_, ?_, (closed_stock _ _).trans stock, (closed_cost _ _).trans cost, (closed_plans _ _).trans plans,
      (closed_entries _ _).trans entries⟩
    · rw [cutter_of_same ((closed_cutting _ _).trans cutting), cutter_putCutter, if_pos rfl, erased]
    · rw [closed_cutting, cutting]
      rfl
  case mismatched =>
    intro unc fresh others
    have unlisted : c.uncertain.find? (fun x => x.echo == m.echo) = none :=
      List.find?_eq_none.2 fun x among => by simpa using others x among
    have mismatched : (s.credited st).completion c m = ((s.credited st).mismatch c).reevaluateIf (!c.slots.isEmpty) := by
      rw [State.completion, classify_of_unclaimed (free unc), if_neg fresh, unlisted]
    rw [mismatched]
    obtain ⟨state, last, gone, stock, cost, entries⟩ := mismatch_left (s := s.credited st) found (!c.slots.isEmpty)
    refine ⟨?_, ?_, fun id slot => ?_, (closed_stock _ _).trans stock, (closed_cost _ _).trans cost,
      (closed_entries _ _).trans entries⟩
    · rw [cutter_of_same (closed_cutting _ _)]
      exact state
    · rw [cutter_of_same (closed_cutting _ _)]
      exact last
    · rw [record_of_same (closed_cutting _ _)]
      exact gone id slot

end Sys2Proof.Machine
end
